-- ==== Sys2Proof/Word.lean ====
section
/-! DEFINITION. Word.lean: the words of the engine. Bit 0 is the least significant bit and every value is
unsigned (00_scope.md R12). Offsets and addresses under computation are natural numbers. -/

namespace Sys2Proof

/-- A byte: 8 bits, unsigned (00_scope.md R12). -/
abbrev Byte := BitVec 8

/-- A host register: REG_W = 32 bits (00_scope.md R10, D4). Frame-buffer addresses have the same width
(FB_ADDR_W = 32, D12). -/
abbrev Word := BitVec 32

/-- A frame-buffer or host address lies below this bound (20_memory.md R84). -/
abbrev addressSpace : Nat := 2 ^ 32

end Sys2Proof
end

