-- ==== Sys2Proof/Syntax.lean ====
section
/-! DEFINITION. Syntax.lean: the instructions of spec/opcode_table.json, one constructor per row. Nine are the
operations the host requests with a word written to CMD (HRW, 30_encoding.md R112). Twenty are the commands the
engine sends to the panel as wire frames (WF, 30_encoding.md R120, 45_panel_command_set.md). -/

namespace Sys2Proof

inductive Instr
  /-- INIT, ARG = orientation (44_protocol_operations.md R231). -/
  | init (arg : Byte)
  /-- RESET (44_protocol_operations.md R236). -/
  | reset
  /-- SEND_CMD, ARG = the command byte (43_protocol_primitives.md R211). -/
  | sendCmd (arg : Byte)
  /-- SEND_DATA, ARG = the data byte (43_protocol_primitives.md R212). -/
  | sendData (arg : Byte)
  /-- WAIT_IDLE (43_protocol_primitives.md R213). -/
  | waitIdle
  /-- CLEAR (44_protocol_operations.md R237). -/
  | clear
  /-- FRAME_H (44_protocol_operations.md R238). -/
  | frameH
  /-- FRAME_V (44_protocol_operations.md R239). -/
  | frameV
  /-- DISPLAY_SLEEP (44_protocol_operations.md R241). -/
  | displaySleep
  /-- PSR 0x00 (45_panel_command_set.md R280). -/
  | psr
  /-- PWR 0x01 (R281). -/
  | pwr
  /-- POF 0x02 (R282). -/
  | pof
  /-- PFS 0x03 (R283). -/
  | pfs
  /-- PON 0x04 (R284). -/
  | pon
  /-- BTST 0x06 (R285). -/
  | btst
  /-- DSLP 0x07 (R286). -/
  | dslp
  /-- DTM 0x10 (R287). -/
  | dtm
  /-- DRF 0x12 (R288). -/
  | drf
  /-- PLL 0x30 (R289). -/
  | pll
  /-- TSE 0x41 (R290). -/
  | tse
  /-- CDI 0x50 (R291). -/
  | cdi
  /-- TCON 0x60 (R292). -/
  | tcon
  /-- TRES 0x61 (R293). -/
  | tres
  /-- HTOTAL 0x62 (R294). -/
  | htotal
  /-- GSST 0x65 (R295). -/
  | gsst
  /-- CCSET 0xE0 (R296). -/
  | ccset
  /-- PWS 0xE3 (R297). -/
  | pws
  /-- MS_CTRL 0xEE (R298). -/
  | msCtrl
  /-- VENDOR_E9 0xE9 (R299). -/
  | vendorE9
  deriving DecidableEq, Repr

end Sys2Proof
end

