-- ==== Sys2Proof/WellFormed.lean ====
section
/-! DEFINITION. WellFormed.lean: the operand values the spec calls valid. Every operand fits its field by its type, so
the one check is INIT's orientation (30_encoding.md R113). A word with another orientation still decodes, and the engine
answers it with ERR_ORIENT. -/

namespace Sys2Proof

/-- The orientations INIT may name: 1 Left, 2 Right, 3 Up, 4 Down (30_encoding.md R113). -/
def validOrientationArg (arg : Byte) : Bool :=
  1 ≤ arg.toNat && arg.toNat ≤ 4

/-- The operand of the instruction is one the spec calls valid. -/
def Instr.wellFormed : Instr → Bool
  | .init arg => validOrientationArg arg
  | .reset | .sendCmd _ | .sendData _ | .waitIdle | .clear | .frameH | .frameV | .displaySleep => true
  | .psr | .pwr | .pof | .pfs | .pon | .btst | .dslp | .dtm | .drf | .pll => true
  | .tse | .cdi | .tcon | .tres | .htotal | .gsst | .ccset | .pws | .msCtrl | .vendorE9 => true

end Sys2Proof
end

