-- ==== Sys2Proof/Decode.lean ====
section
/-! DEFINITION. Decode.lean: the two encoding formats (30_encoding.md R110), a decoder that is total over every word and
names what it refuses, and the encoder written from the same tables. -/

namespace Sys2Proof

/-- The two formats: a host request word and a wire frame (30_encoding.md R110, R111, R119). -/
inductive Encoded
  | hrw (w : Word)
  | wf (f : BitVec 9)
  deriving DecidableEq, Repr

/-- Why a word names no instruction of the table. -/
inductive DecodeError
  /-- HRW: a bit of RSV0 or RSV1 is not 0 (30_encoding.md R116). -/
  | reservedBits
  /-- HRW: OP 0x0 or 0xA..0xF (30_encoding.md R118). -/
  | reservedOp
  /-- HRW: ARG is not 0 on an operation without operand (30_encoding.md R115). -/
  | operandNotZero
  /-- WF: DC is High, so the byte is data (30_encoding.md R119). -/
  | dataFrame
  /-- WF: the command byte is outside the alphabet (30_encoding.md R120, R122). -/
  | unlistedCommand
  /-- The bytes are neither one HRW nor one WF (30_encoding.md R110, R123). -/
  | notAFormat
  deriving DecidableEq, Repr

/-! ### Fields of a host request word (30_encoding.md R111) -/

def hrwOp (w : Word) : BitVec 4 := w.extractLsb' 0 4

def hrwRsv0 (w : Word) : BitVec 4 := w.extractLsb' 4 4

def hrwArg (w : Word) : Byte := w.extractLsb' 8 8

def hrwRsv1 (w : Word) : BitVec 16 := w.extractLsb' 16 16

/-- The word with OP and ARG and reserved bits 0 (30_encoding.md R111, R126). -/
def hrwWord (op : BitVec 4) (arg : Byte) : Word := 0#16 ++ arg ++ 0#4 ++ op

/-- A request without operand: its ARG must be 0 (30_encoding.md R115, R117). -/
def noOperand (arg : Byte) (i : Instr) : Except DecodeError Instr :=
  if arg = 0 then .ok i else .error .operandNotZero

/-- The request a decoded OP and ARG stand for (30_encoding.md R112, R117). -/
def decodeOp (op : Nat) (arg : Byte) : Except DecodeError Instr :=
  match op with
  | 0x1 => .ok (.init arg)
  | 0x2 => noOperand arg .reset
  | 0x3 => .ok (.sendCmd arg)
  | 0x4 => .ok (.sendData arg)
  | 0x5 => noOperand arg .waitIdle
  | 0x6 => noOperand arg .clear
  | 0x7 => noOperand arg .frameH
  | 0x8 => noOperand arg .frameV
  | 0x9 => noOperand arg .displaySleep
  | _ => .error .reservedOp

/-- Decode of a CMD write, total over the 2^32 words (30_encoding.md R117). -/
def decodeRequest (w : Word) : Except DecodeError Instr :=
  if hrwRsv1 w ≠ 0 ∨ hrwRsv0 w ≠ 0 then .error .reservedBits
  else decodeOp (hrwOp w).toNat (hrwArg w)

/-! ### Wire commands (30_encoding.md R119, R120) -/

/-- The wire command a command byte stands for; no other byte has a meaning in any source (30_encoding.md R120). -/
def wireCommand (code : Nat) : Option Instr :=
  match code with
  | 0x00 => some .psr
  | 0x01 => some .pwr
  | 0x02 => some .pof
  | 0x03 => some .pfs
  | 0x04 => some .pon
  | 0x06 => some .btst
  | 0x07 => some .dslp
  | 0x10 => some .dtm
  | 0x12 => some .drf
  | 0x30 => some .pll
  | 0x41 => some .tse
  | 0x50 => some .cdi
  | 0x60 => some .tcon
  | 0x61 => some .tres
  | 0x62 => some .htotal
  | 0x65 => some .gsst
  | 0xE0 => some .ccset
  | 0xE3 => some .pws
  | 0xEE => some .msCtrl
  | 0xE9 => some .vendorE9
  | _ => none

/-- A wire frame from its two fields: DC at bit 8 (0 command, 1 data), the byte below (30_encoding.md R119). -/
def wireFrame (dc : Bool) (b : Byte) : BitVec 9 := BitVec.ofBool dc ++ b

def frameIsData (f : BitVec 9) : Bool := f.getLsbD 8

def frameByte (f : BitVec 9) : Byte := f.extractLsb' 0 8

/-- The wire command of a frame: DC Low and a listed byte. -/
def decodeFrame (f : BitVec 9) : Except DecodeError Instr :=
  if frameIsData f then .error .dataFrame
  else
    match wireCommand (frameByte f).toNat with
    | some i => .ok i
    | none => .error .unlistedCommand

/-! ### Both formats -/

def decode : Encoded → Except DecodeError Instr
  | .hrw w => decodeRequest w
  | .wf f => decodeFrame f

/-- Decode of bytes, least significant first (20_memory.md R83): four are a host request word, two are a wire frame whose
seven upper bits are 0. Total on any list of bytes. -/
def decodeBytes : List Byte → Except DecodeError Instr
  | [b0, b1, b2, b3] => decodeRequest (b3 ++ b2 ++ b1 ++ b0)
  | [b0, b1] => if b1.toNat < 2 then decodeFrame (wireFrame (b1.getLsbD 0) b0) else .error .notAFormat
  | _ => .error .notAFormat

/-- The byte list of a number's low `n` bytes, least significant first. -/
def bytesOf : Nat → Nat → List Byte
  | 0, _ => []
  | n + 1, w => BitVec.ofNat 8 w :: bytesOf n (w / 256)

/-- The word of an instruction, from the tables of 30_encoding.md R112 and R120. -/
def encode : Instr → Encoded
  | .init arg => .hrw (hrwWord 0x1 arg)
  | .reset => .hrw (hrwWord 0x2 0)
  | .sendCmd arg => .hrw (hrwWord 0x3 arg)
  | .sendData arg => .hrw (hrwWord 0x4 arg)
  | .waitIdle => .hrw (hrwWord 0x5 0)
  | .clear => .hrw (hrwWord 0x6 0)
  | .frameH => .hrw (hrwWord 0x7 0)
  | .frameV => .hrw (hrwWord 0x8 0)
  | .displaySleep => .hrw (hrwWord 0x9 0)
  | .psr => .wf (wireFrame false 0x00)
  | .pwr => .wf (wireFrame false 0x01)
  | .pof => .wf (wireFrame false 0x02)
  | .pfs => .wf (wireFrame false 0x03)
  | .pon => .wf (wireFrame false 0x04)
  | .btst => .wf (wireFrame false 0x06)
  | .dslp => .wf (wireFrame false 0x07)
  | .dtm => .wf (wireFrame false 0x10)
  | .drf => .wf (wireFrame false 0x12)
  | .pll => .wf (wireFrame false 0x30)
  | .tse => .wf (wireFrame false 0x41)
  | .cdi => .wf (wireFrame false 0x50)
  | .tcon => .wf (wireFrame false 0x60)
  | .tres => .wf (wireFrame false 0x61)
  | .htotal => .wf (wireFrame false 0x62)
  | .gsst => .wf (wireFrame false 0x65)
  | .ccset => .wf (wireFrame false 0xE0)
  | .pws => .wf (wireFrame false 0xE3)
  | .msCtrl => .wf (wireFrame false 0xEE)
  | .vendorE9 => .wf (wireFrame false 0xE9)

/-- The instruction the decoder reads from a table word: a row of 9 bits (16 in whole bytes) is a wire frame, a row of 32
bits a host request word. -/
def decodeTableWord (nbits w : Nat) : Option Instr :=
  let size := if nbits ≤ 16 then 2 else 4
  if w < 256 ^ size then
    match decodeBytes (bytesOf size w) with
    | .ok i => some i
    | .error _ => none
  else none

end Sys2Proof
end

