-- ==== Sys2Proof/Config.lean ====
section
/-! DEFINITION. Config.lean: what an implementation of the engine fixes (00_scope.md R10, 10_state.md R52-R56) and
the free values that the spec leaves open. A constant the source states is a plain definition. A parameter the spec
calls `param` or `OPEN` is a field of `Params`, which State holds, so that a statement about every state is a statement
about every value of it. What no rule constrains is an opaque constant. -/

namespace Sys2Proof

/-! ### Names the configuration speaks in -/

/-- The level of a pin (43_protocol_primitives.md R200). -/
inductive Level
  | low
  | high
  deriving DecidableEq, Repr, Inhabited

/-- The mounting of the panel (00_scope.md R18, 30_encoding.md R113). -/
inductive Orientation
  | left
  | right
  | up
  | down
  deriving DecidableEq, Repr, Inhabited

/-- One of the two cascaded panel controllers (00_scope.md R18, 60_exceptions.md R338). -/
inductive Controller
  | master
  | slave
  deriving DecidableEq, Repr, Inhabited

/-- An entry of INIT_ROM (10_state.md R54). -/
inductive RomEntry
  | cmd (b : Byte)
  | data (b : Byte)
  | psrM (i : Nat)
  | psrS (i : Nat)
  deriving DecidableEq, Repr, Inhabited

/-! ### Constants the source states (00_scope.md R7, R10) -/

namespace Config

/-- LINE_BYTES, L: bytes per block of one output half (00_scope.md R10, R11). -/
def lineBytes : Nat := 100

/-- COLUMN_BYTES, C: blocks per output half (00_scope.md R10, R11). -/
def columnBytes : Nat := 272

/-- HALF_BYTES = C * L: bytes streamed per controller half (00_scope.md R10). -/
def halfBytes : Nat := 27200

/-- OVERLAP, O: seam bytes sent in both halves (00_scope.md R10). -/
def overlap : Nat := 2

/-- FILL_BYTE: the byte CLEAR writes (00_scope.md R10). -/
def fillByte : Byte := 0x55

/-- POLL_MS (00_scope.md R10, 70_reset_and_hazards.md R375). -/
def pollMs : Nat := 100

/-- RESET_LOW_MS (00_scope.md R10, 70_reset_and_hazards.md R375). -/
def resetLowMs : Nat := 200

/-- RESET_HIGH_MS (00_scope.md R10, 70_reset_and_hazards.md R375). -/
def resetHighMs : Nat := 200

/-- SLEEP_TAIL_MS (00_scope.md R10, 70_reset_and_hazards.md R375). -/
def sleepTailMs : Nat := 200

/-- DRF_PARAM, POF_PARAM, DSLP_PARAM (00_scope.md R10). -/
def drfParam : Byte := 0x00

def pofParam : Byte := 0x00

def dslpParam : Byte := 0xA5

/-- SEL_BOTH: the controller-select payload of both controllers (00_scope.md R10, 30_encoding.md R121). -/
def selBoth : Byte := 0x04

/-- SEL_MASTER = 0x05, SEL_SLAVE = 0x06 (00_scope.md R10, 30_encoding.md R121). -/
def selOf : Controller → Byte
  | .master => 0x05
  | .slave => 0x06

/-- The identity string the spec uses (00_scope.md R2, D1). -/
def identity : String := "EPD-PE/blueblance-epaper_test/spec-v7"

end Config

/-! ### PSR_TABLE and INIT_ROM (10_state.md R52-R56) -/

/-- The pair (M[o], S[o]) of one orientation (10_state.md R52). -/
structure PsrPair where
  master : List Byte
  slave : List Byte
  deriving DecidableEq, Repr, Inhabited

/-- PSR_TABLE: four entries, one per orientation (10_state.md R52). -/
structure PsrTable where
  left : PsrPair
  right : PsrPair
  up : PsrPair
  down : PsrPair
  deriving DecidableEq, Repr, Inhabited

def PsrTable.entry (t : PsrTable) : Orientation → PsrPair
  | .left => t.left
  | .right => t.right
  | .up => t.up
  | .down => t.down

/-- Both lists of a pair are PSR_LEN bytes long (10_state.md R52). -/
def PsrPair.hasLength (p : PsrPair) (len : Nat) : Prop :=
  p.master.length = len ∧ p.slave.length = len

/-- Two PSR byte lists differ by `mask` in byte 0 and nowhere else (10_state.md R53). -/
def psrComplement (mask : Byte) (a b : List Byte) : Prop :=
  ∃ x rest, a = x :: rest ∧ b = (x ^^^ mask) :: rest

/-- The property 10_state.md R53 reads out of the source's tests: Left pairs with Down and Right with Up. No definition
of the model relies on it. -/
def PsrTable.complementary (t : PsrTable) (mask : Byte) : Prop :=
  psrComplement mask t.left.master t.down.master ∧ psrComplement mask t.left.slave t.down.slave ∧
  psrComplement mask t.right.master t.up.master ∧ psrComplement mask t.right.slave t.up.slave

/-- A command with its data bytes that INIT_ROM holds beside the groups the source names (10_state.md R55:
whether there are any is OPEN; 91_not_in_source.md). -/
structure ExtraCommand where
  code : Byte
  data : List Byte
  deriving DecidableEq, Repr, Inhabited

/-- What 45_panel_command_set.md R280 and R298 and 30_encoding.md R121 leave to an extra command: it is not the
panel-setting command, and a controller select carries exactly one of the three payloads. -/
def ExtraCommand.legal (x : ExtraCommand) : Bool :=
  x.code != 0x00 && (x.code != 0xEE || x.data == [0x04] || x.data == [0x05] || x.data == [0x06])

def ExtraCommand.entries (x : ExtraCommand) : List RomEntry :=
  .cmd x.code :: x.data.map .data

/-- The OPEN pieces of an INIT_ROM that meets 10_state.md R55 in the order and with the command bytes of R56. -/
structure RomPieces where
  /-- Group 1, cascade mode: the data bytes after CCSET. -/
  cascade : List Byte
  /-- Group 3, temperature/cascade-input selection: the data bytes after TSE. -/
  temperature : List Byte
  /-- Group 4, border/VCOM timing: the data bytes after CDI. -/
  border : List Byte
  /-- Group 5, resolution: the four bytes after TRES. -/
  resolution : Byte × Byte × Byte × Byte
  /-- Group 6, gate/source start: GSST_LEN, the number of zero bytes after GSST. -/
  gsstLen : Nat
  /-- Group 7, horizontal total: the two bytes after HTOTAL. -/
  horizontal : Byte × Byte
  /-- What stands before group i, between two groups and after the last one, by slot. -/
  extras : List (List ExtraCommand)
  deriving DecidableEq, Repr, Inhabited

/-- The extra commands of slot i (an illegal one is not part of any INIT_ROM of the spec and is left out). -/
def RomPieces.extra (q : RomPieces) (i : Nat) : List RomEntry :=
  ((q.extras.getD i []).filter ExtraCommand.legal).flatMap ExtraCommand.entries

/-- Group 2 for one controller (10_state.md R55): the select, the panel-setting command and PSR_LEN entries. -/
def psrGroup (sel : Byte) (entry : Nat → RomEntry) (psrLen : Nat) : List RomEntry :=
  [.cmd 0xEE, .data sel, .cmd 0x00] ++ (List.range psrLen).map entry

/-- INIT_ROM from its pieces: the eight groups of 10_state.md R55 in the order and with the codes of R56. -/
def RomPieces.rom (q : RomPieces) (psrLen : Nat) : List RomEntry :=
  q.extra 0 ++ (.cmd 0xE0 :: q.cascade.map .data) ++
  q.extra 1 ++ psrGroup (Config.selOf .master) .psrM psrLen ++
  q.extra 2 ++ psrGroup (Config.selOf .slave) .psrS psrLen ++
  q.extra 3 ++ (.cmd 0x41 :: q.temperature.map .data) ++
  q.extra 4 ++ (.cmd 0x50 :: q.border.map .data) ++
  q.extra 5 ++ [.cmd 0x61, .data q.resolution.1, .data q.resolution.2.1, .data q.resolution.2.2.1,
    .data q.resolution.2.2.2] ++
  q.extra 6 ++ (.cmd 0x65 :: List.replicate q.gsstLen (.data 0x00)) ++
  q.extra 7 ++ [.cmd 0x62, .data q.horizontal.1, .data q.horizontal.2] ++
  q.extra 8 ++ [.cmd 0xE9, .data 0x01] ++
  q.extra 9

/-! ### The parameters State holds -/

/-- The parameters an engine is built with (00_scope.md R10): constants of a run, not changed by reset
(70_reset_and_hazards.md R361). -/
structure Params where
  /-- PSR_LEN, OPEN (10_state.md R52). -/
  psrLen : Nat
  /-- PSR_TABLE, OPEN (10_state.md R52). -/
  psrTable : PsrTable
  /-- INIT_ROM, OPEN within 10_state.md R55 and R56. -/
  initRom : List RomEntry
  /-- VSEL_UP_A: the controller half A goes to under Up (42_frame_partitioner.md R174). -/
  vselUpA : Controller
  /-- PITCH: source-buffer distance between consecutive blocks (00_scope.md R10). -/
  pitch : Nat
  /-- HALF_B_OFFSET: offset of half B within a block (00_scope.md R10). -/
  halfBOffset : Nat
  deriving DecidableEq, Repr

/-- FB_LEN = C * PITCH: bytes of the source buffer the engine may read (00_scope.md R10). -/
def Params.fbLen (p : Params) : Nat := Config.columnBytes * p.pitch

/-- PITCH = 2L - O and HALF_B_OFFSET = L - O, the decided geometry (00_scope.md R10, D9). -/
def Params.specGeometry (p : Params) : Prop :=
  p.pitch = 2 * Config.lineBytes - Config.overlap ∧ p.halfBOffset = Config.lineBytes - Config.overlap

/-- What the spec says of the parameters: the PSR lists have PSR_LEN bytes (10_state.md R52), INIT_ROM meets R54-R56, and
the geometry is the decided one (00_scope.md R10). -/
def Params.WellFormed (p : Params) : Prop :=
  (∀ o, (p.psrTable.entry o).hasLength p.psrLen) ∧ (∃ q : RomPieces, p.initRom = q.rom p.psrLen) ∧ p.specGeometry

/-! ### Free values -/

namespace Config

/-- The level a BUSY read returns when State determines none: the answer of draw number i (00_scope.md R9). -/
opaque busyLevel : Nat → Level

/-- Whether transport setup succeeds when State determines no answer (43_protocol_primitives.md R214). -/
opaque setupOk : Nat → Bool

/-- The byte a frame-buffer read returns at an address the host wrote during the running op (20_memory.md R92). -/
opaque racedByte : Nat → Byte

/-- The level of RST before the first PanelReset (43_protocol_primitives.md R210). -/
opaque rstAtPowerOn : Level

/-- The level of DC before the first frame (70_reset_and_hazards.md R363). -/
opaque dcAtPowerOn : Level

/-- PSR_LEN (10_state.md R52, D20). -/
opaque psrLen : Nat

/-- The bytes of PSR_TABLE (10_state.md R52, D20). -/
opaque psrByte : Orientation → Controller → Nat → Byte

/-- The OPEN pieces of INIT_ROM (10_state.md R55, R56, D19). -/
opaque romPieces : RomPieces

/-- DIRMASK (10_state.md R53, D20). No rule of the engine reads it. -/
opaque dirMask : Byte

/-- REG_BASE, where the platform puts the register window (20_memory.md R81, D5). Actions of the host name offsets. -/
opaque regBase : Nat

/-- PIN_RST, PIN_DC and PIN_BUSY (20_memory.md R86, D21): the transport's pin identifiers, without effect here. -/
opaque pinRst : Nat

opaque pinDc : Nat

opaque pinBusy : Nat

/-- The PSR pair of an orientation, from the OPEN bytes. -/
def psrPair (o : Orientation) : PsrPair where
  master := (List.range psrLen).map (psrByte o .master)
  slave := (List.range psrLen).map (psrByte o .slave)

/-- The parameters of the engine after reset: OPEN values opaque, decided values the spec's own. -/
def params : Params where
  psrLen := psrLen
  psrTable := { left := psrPair .left, right := psrPair .right, up := psrPair .up, down := psrPair .down }
  initRom := romPieces.rom psrLen
  vselUpA := .slave
  pitch := 198
  halfBOffset := 98

end Config

end Sys2Proof
end

