-- ==== Sys2Proof/Machine/State.lean ====
section
/-! DEFINITION. State.lean: the state of the engine and of what the rules say about its surroundings, as plain data
(10_state.md), the reasons a step can stop, and the state after reset (10_state.md R59, 70_reset_and_hazards.md R361). -/

namespace Sys2Proof.Machine

/-! ### Registers -/

/-- The nine operations, the values of OPL (30_encoding.md R112, 10_state.md R32). -/
inductive Op
  | init
  | reset
  | sendCmd
  | sendData
  | waitIdle
  | clear
  | frameH
  | frameV
  | displaySleep
  deriving DecidableEq, Repr

/-- The values of STATUS.PSTATE (10_state.md R39). -/
inductive PState
  | unconfigured
  | ready
  | deepSleep
  deriving DecidableEq, Repr

/-- The values of STATUS.RESULT (60_exceptions.md R320). -/
inductive Result
  | ok
  | errSetup
  | errOrient
  | errNoSetup
  | errSleep
  | errTimeout
  | errOp
  | errRange
  | errVariant
  | pending
  deriving DecidableEq, Repr

/-- The fields of STATUS (10_state.md R37-R43). Bits 31:13 hold nothing and read 0 (R44); ORIENT none is the value 0. -/
structure Status where
  active : Bool
  busyWait : Bool
  pstate : PState
  tsetupOk : Bool
  orient : Option Orientation
  result : Result
  ovr : Bool
  deriving DecidableEq, Repr

/-- One of the two output halves (42_frame_partitioner.md R170). -/
inductive Half
  | a
  | b
  deriving DecidableEq, Repr

/-- Which event of its pseudocode line the sequencer emits next (10_state.md R33). -/
inductive Beat
  /-- The line's first event. -/
  | start
  /-- DC has been written: the byte goes next (43_protocol_primitives.md R201, R202). -/
  | framed
  /-- BUSY was read Low: the poll delay goes next (43_protocol_primitives.md R205). -/
  | polled
  /-- The poll delay is over: BUSY is read again (43_protocol_primitives.md R205). -/
  | again
  /-- The frame-buffer byte has been read: its data frame goes next (44_protocol_operations.md R238). -/
  | fetched
  deriving DecidableEq, Repr

/-- How the source buffer is split (42_frame_partitioner.md R171). -/
inductive Split
  | column
  | row
  deriving DecidableEq, Repr

/-- One line of an operation's pseudocode. -/
inductive Item
  /-- `emit Setup` with INIT's two outcomes (44_protocol_operations.md R231). -/
  | setup
  /-- `emit PinWrite(RST, lvl)` (43_protocol_primitives.md R209). -/
  | rst (lvl : Level)
  /-- `emit Delay(ms)` of a fixed sequence. -/
  | delay (ms : Nat)
  /-- `WaitUntilIdle()` (43_protocol_primitives.md R205). -/
  | wait
  /-- `SendCommand(b)` (43_protocol_primitives.md R201). -/
  | cmd (b : Byte)
  /-- `SendData(b)` (43_protocol_primitives.md R202). -/
  | data (b : Byte)
  /-- The loop over INIT_ROM (44_protocol_operations.md R231, R233). -/
  | rom
  /-- The loop `for n in 0 .. HALF_BYTES - 1: SendData(0x55)` (44_protocol_operations.md R237). -/
  | fill
  /-- The loops over b and j of one half (44_protocol_operations.md R238, R239). -/
  | pixels (split : Split) (half : Half)
  /-- A FRAME line with no valid STATUS.ORIENT; R187 of 42_frame_partitioner.md rules it out. -/
  | noOrientation
  deriving DecidableEq, Repr

/-- The internal registers of 10_state.md R32 and the sequencer position of R33. They are unspecified while
STATUS.ACTIVE = 0. -/
structure Sequencer where
  /-- OPL: the accepted op. -/
  opl : Op
  /-- ARGL: the accepted ARG byte. -/
  argl : Byte
  /-- FBL: FB_BASE latched at accept. -/
  fbl : Word
  /-- WLL: WAIT_LIMIT.LIMIT latched at accept. -/
  wll : BitVec 16
  /-- PSRM: the master PSR byte list. -/
  psrM : List Byte
  /-- PSRS: the slave PSR byte list. -/
  psrS : List Byte
  /-- phase, first part: the line of the operation's pseudocode. -/
  item : Nat
  /-- phase, second part: the event of that line. -/
  beat : Beat
  /-- h: the half index. -/
  h : Half
  /-- b: the block index. -/
  b : Nat
  /-- j: the byte index within a block. -/
  j : Nat
  /-- k: the INIT_ROM index. -/
  k : Nat
  /-- n: the fill count. -/
  n : Nat
  /-- w: the delays issued by the current wait. -/
  w : Nat
  /-- v: the byte the last frame-buffer read of the running operation returned, 0 while no operation is active
  (44_protocol_operations.md R238, 20_memory.md R84; log 14). -/
  v : Byte
  deriving DecidableEq, Repr

/-! ### Transport, panel and host -/

inductive Pin
  | rst
  | dc
  deriving DecidableEq, Repr

/-- An event the engine emits, with the answer it got (00_scope.md R14, 43_protocol_primitives.md R200). -/
inductive Event
  | setup (ok : Bool)
  | pinWrite (p : Pin) (lvl : Level)
  | pinRead (lvl : Level)
  | spi (b : Byte)
  | delay (ms : Nat)
  | fbRead (addr : Nat)
  deriving DecidableEq, Repr

/-- The panel's selection set (20_memory.md R104 (a)). It is unknown before a select the reading accounts for
(70_reset_and_hazards.md R363, R378). -/
inductive Selection
  | unknown
  | both
  | master
  | slave
  deriving DecidableEq, Repr

/-- What the panel takes the next data byte for, under the reference reading (20_memory.md R104; log 15). -/
inductive Stream
  /-- No frame-memory stream is open. -/
  | closed
  /-- MS_CTRL was sent: its payload comes. -/
  | selector
  /-- MS_CTRL's payload was sent: the spec gives one payload byte and no meaning to another. -/
  | selected
  /-- DTM was sent: frame-memory bytes come. -/
  | memory
  /-- DTM was sent under an unknown selection: any controller's memory may take the bytes. -/
  | lost
  /-- DSLP was sent: its data byte comes (45_panel_command_set.md R286). -/
  | sleep
  deriving DecidableEq, Repr

/-- Panel power as the last PON or POF left it (60_exceptions.md R340). -/
inductive Power
  | unknown
  | on
  | off
  deriving DecidableEq, Repr

/-- What is known of one of the two controllers (10_state.md R58). A frame-memory byte that is not listed is unknown. -/
structure ControllerRecord where
  /-- The write pointer (20_memory.md R104 (b)). -/
  ptr : Nat
  mem : List Host.Cell
  power : Power
  /-- The controller may be in deep sleep: after a DSLP that went to it (70_reset_and_hazards.md R373), and after an engine
  reset (R363), until an RST pulse. -/
  mayBeAsleep : Bool
  deriving DecidableEq, Repr

/-- The panel under the reference reading of 20_memory.md R104 (10_state.md R58). No rule of the engine reads it. -/
structure Panel where
  select : Selection
  stream : Stream
  master : ControllerRecord
  slave : ControllerRecord
  /-- An INIT timed out in its reset wait, so the panel has not received INIT_ROM, and no later INIT has pulsed RST
  (70_reset_and_hazards.md R366). -/
  initMissed : Bool
  deriving DecidableEq, Repr

/-- What happens at the block's host side in one step: an access of the host, the platform's reset, or nothing, so that the
engine takes the step (00_scope.md R8, 20_memory.md R95). -/
inductive HostAction
  /-- A write of `width` bits at a byte offset of the register window. -/
  | write (offset width : Nat) (value : Word)
  /-- A read of `width` bits at a byte offset of the register window. -/
  | read (offset width : Nat)
  /-- A store of the host into the frame-buffer space it owns (20_memory.md R84, R92). -/
  | storeByte (addr : Word) (value : Byte)
  /-- Engine reset (70_reset_and_hazards.md R360). -/
  | engineReset
  /-- The host leaves this step to the engine. -/
  | tick
  /-- The loop `rd STATUS` until STATUS[0] = 0 (30_encoding.md R125). -/
  | sync
  deriving DecidableEq, Repr

/-! ### The state -/

structure State where
  /-- STATUS (10_state.md R37-R44). -/
  status : Status
  /-- FB_BASE (10_state.md R45). -/
  fbBase : Word
  /-- WAIT_LIMIT.LIMIT (10_state.md R46). -/
  waitLimit : BitVec 16
  /-- POLLS (10_state.md R47). -/
  polls : Word
  /-- The internal registers (10_state.md R32, R33). -/
  seq : Sequencer
  /-- PSR_TABLE, INIT_ROM and the parameters of 00_scope.md R10 (10_state.md R30 (c)). -/
  params : Params
  /-- Host memory, the frame-buffer space: cells in canonical form (20_memory.md R84). -/
  memory : List Host.Cell
  /-- Addresses of the running FRAME op's buffer that the host wrote during it (20_memory.md R92). -/
  raced : List Nat
  /-- The level last written to RST. -/
  rst : Level
  /-- The level last written to DC. -/
  dc : Level
  /-- The event stream, newest first (20_memory.md R93, 60_exceptions.md R339). -/
  trace : List Event
  /-- The panel under the reference reading (20_memory.md R104). -/
  panel : Panel
  /-- What the host and the platform do next, first first (log 1). -/
  inputs : List HostAction
  /-- Levels of the coming BUSY reads that are already determined (log 5). -/
  busyAnswers : List Level
  /-- Answers of the coming transport setups that are already determined (log 5). -/
  setupAnswers : List Bool
  /-- Number of free values taken so far (log 5). -/
  draws : Nat
  /-- What the host's last register read returned (log 16). -/
  hostRead : Word
  deriving DecidableEq, Repr

/-! ### Reasons to stop -/

/-- Faults. No run from reset, and no state whose parameters and position the spec admits, raises one. -/
inductive Fault
  /-- Raised by FRAME_H and FRAME_V at a frame-buffer read past 2^32 - 1, an address that does not exist
  (20_memory.md R84, R96). Safe: the machine stops. -/
  | frameBufferAddress
  /-- Raised by INIT at a PsrM(i) or PsrS(i) with no such byte, which 10_state.md R54 excludes. Safe: the machine stops. -/
  | romEntry
  /-- Raised by INIT, FRAME_H and FRAME_V running without a valid orientation, which 42_frame_partitioner.md R187 excludes.
  Safe: the machine stops. -/
  | invalidOrientation
  deriving DecidableEq, Repr

/-- Refusals. -/
inductive Refusal
  /-- Raised by no arm: the instruction has no meaning in the model. Safe. -/
  | notModelled (mnemonic : String)
  /-- Raised by a register access of a width other than 32 bits, misaligned, or outside the 32-byte window: outside the
  interface (20_memory.md R81, R82). Safe. -/
  | registerAccess (offset width : Nat)
  deriving DecidableEq, Repr

/-! ### Reset -/

/-- STATUS = 0x00000000 (10_state.md R59). -/
def Status.reset : Status where
  active := false
  busyWait := false
  pstate := .unconfigured
  tsetupOk := false
  orient := none
  result := .ok
  ovr := false

/-- The internal registers after reset: unspecified by 10_state.md R59, here zero. DESIGN CHOICE, unsafe (log 8). -/
def Sequencer.reset : Sequencer where
  opl := .init
  argl := 0
  fbl := 0
  wll := 0
  psrM := []
  psrS := []
  item := 0
  beat := .start
  h := .a
  b := 0
  j := 0
  k := 0
  n := 0
  w := 0
  v := 0

/-- A controller of which nothing is known but whether it may sleep. -/
def ControllerRecord.unknown (mayBeAsleep : Bool) : ControllerRecord where
  ptr := 0
  mem := []
  power := .unknown
  mayBeAsleep := mayBeAsleep

/-- A panel of which nothing is known but whether its controllers may sleep and whether it missed INIT_ROM. -/
def Panel.unknown (masterAsleep slaveAsleep initMissed : Bool) : Panel where
  select := .unknown
  stream := .closed
  master := .unknown masterAsleep
  slave := .unknown slaveAsleep
  initMissed := initMissed

/-- The panel after reset: nothing is known of it, and it may be in DeepSleep (70_reset_and_hazards.md R363; log 15). -/
def Panel.reset : Panel := Panel.unknown true true false

/-- The machine right after reset (10_state.md R59, 70_reset_and_hazards.md R361). The pins are at unknown levels
(43_protocol_primitives.md R210), the OPEN parameters are opaque, and no answer of the transport or the panel is
determined. -/
def State.reset : State where
  status := Status.reset
  fbBase := 0
  waitLimit := 0
  polls := 0
  seq := Sequencer.reset
  params := Config.params
  memory := []
  raced := []
  rst := Config.rstAtPowerOn
  dc := Config.dcAtPowerOn
  trace := []
  panel := Panel.reset
  inputs := []
  busyAnswers := []
  setupAnswers := []
  draws := 0
  hostRead := 0

end Sys2Proof.Machine
end

