-- ==== Sys2Proof/Machine/Ops.lean ====
section
/-! DEFINITION. Ops.lean: the operations the meanings share. Memory; the event stream and the pins; how a request is
checked, accepted or rejected; how an operation ends. The engine has no traps: an error is a result code
(60_exceptions.md R321), so `raise`, `reject` and `overrun` stand where another machine takes an exception. -/

namespace Sys2Proof.Machine

/-- What a meaning answers. -/
abbrev StepResult := Host.Outcome State Fault Refusal

/-- Go on with `f` where a meaning answers a next state. -/
def mapNext (f : State → State) : StepResult → StepResult
  | .next s => .next (f s)
  | .fault r => .fault r
  | .refused r => .refused r

/-! ### Cells of memory, sorted by address -/

def Cells.find : List Host.Cell → Nat → Option Byte
  | [], _ => none
  | c :: m, a => if c.1 = a then some c.2 else Cells.find m a

def Cells.insert (a : Nat) (v : Byte) : List Host.Cell → List Host.Cell
  | [] => [(a, v)]
  | c :: m =>
    if a < c.1 then (a, v) :: c :: m
    else if a = c.1 then (a, v) :: m
    else c :: Cells.insert a v m

def Cells.erase (a : Nat) : List Host.Cell → List Host.Cell
  | [] => []
  | c :: m => if c.1 = a then m else c :: Cells.erase a m

/-- Addresses strictly rise along the list. -/
abbrev Cells.rising (m : List Host.Cell) : Prop := m.Pairwise (fun x y => x.1 < y.1)

/-! ### Host memory (20_memory.md R84) -/

/-- What a byte of host memory that is not listed reads as. DESIGN CHOICE, unsafe (log 7): the spec gives host memory no
contents. -/
def Memory.unwritten : Byte := 0x00

def Memory.read (m : List Host.Cell) (a : Nat) : Byte := (Cells.find m a).getD Memory.unwritten

/-- Store a byte, keeping the canonical form. -/
def Memory.write (m : List Host.Cell) (a : Nat) (v : Byte) : List Host.Cell :=
  if v = Memory.unwritten then Cells.erase a m else Cells.insert a v m

/-- The canonical form: addresses of the 32-bit space, strictly rising, no cell that holds what an unlisted address
reads as. -/
abbrev Memory.wf (m : List Host.Cell) : Prop :=
  Cells.rising m ∧ ∀ c ∈ m, c.1 < addressSpace ∧ c.2 ≠ Memory.unwritten

/-! ### Events and pins (00_scope.md R14) -/

/-- Append an event to the stream, in order of issue (20_memory.md R93). -/
def State.emit (e : Event) (s : State) : State := { s with trace := e :: s.trace }

/-- `emit PinWrite(DC, lvl)`. -/
def State.writeDc (lvl : Level) (s : State) : State := { s with dc := lvl, trace := .pinWrite .dc lvl :: s.trace }

/-- `emit PinWrite(RST, lvl)`, the pin alone. -/
def State.writeRst (lvl : Level) (s : State) : State := { s with rst := lvl, trace := .pinWrite .rst lvl :: s.trace }

/-! ### Answers of the transport and the panel (00_scope.md R9) -/

/-- The level the next BUSY read returns: a draw. -/
def State.busyAnswer (s : State) : Level := s.busyAnswers.headD (Config.busyLevel s.draws)

/-- The state after the BUSY answer is taken. -/
def State.takeBusy (s : State) : State :=
  match s.busyAnswers with
  | [] => { s with draws := s.draws + 1 }
  | _ :: rest => { s with busyAnswers := rest }

/-- Whether the next transport setup succeeds: a draw (43_protocol_primitives.md R214). -/
def State.setupAnswer (s : State) : Bool := s.setupAnswers.headD (Config.setupOk s.draws)

/-- The state after the setup answer is taken. -/
def State.takeSetup (s : State) : State :=
  match s.setupAnswers with
  | [] => { s with draws := s.draws + 1 }
  | _ :: rest => { s with setupAnswers := rest }

/-! ### Fields of STATUS and of the sequencer -/

def State.setPState (p : PState) (s : State) : State := { s with status := { s.status with pstate := p } }

def State.setBusyWait (v : Bool) (s : State) : State := { s with status := { s.status with busyWait := v } }

def State.setBeat (v : Beat) (s : State) : State := { s with seq := { s.seq with beat := v } }

/-- On to the next line of the pseudocode, its loop counters at 0. -/
def State.nextItem (s : State) : State :=
  { s with seq := { s.seq with item := s.seq.item + 1, beat := .start, b := 0, j := 0, k := 0, n := 0 } }

/-! ### How an operation ends, and how a request is turned away -/

/-- `raise Result(code)`: the operation ends in this step; what it wrote and sent stands (00_scope.md R16,
60_exceptions.md R322). No copy of a frame-buffer byte is kept (20_memory.md R84). -/
def State.raise (code : Result) (s : State) : State :=
  { s with
    status := { s.status with result := code, active := false, busyWait := false }
    seq := { s.seq with v := 0 } }

/-- `finish`: the same with code OK (00_scope.md R16, 60_exceptions.md R322). -/
def State.finish (s : State) : State := s.raise .ok

/-- `reject code`: STATUS.RESULT takes the code and nothing else changes (60_exceptions.md R323, 30_encoding.md R117). -/
def State.reject (code : Result) (s : State) : State := { s with status := { s.status with result := code } }

/-- A CMD write while an operation is active is dropped and sets STATUS.OVR (60_exceptions.md R326). -/
def State.overrun (s : State) : State := { s with status := { s.status with ovr := true } }

/-! ### Requests (60_exceptions.md R323) -/

/-- The orientation an INIT operand names (30_encoding.md R113). -/
def orientationOf (arg : Byte) : Option Orientation :=
  match arg.toNat with
  | 1 => some .left
  | 2 => some .right
  | 3 => some .up
  | 4 => some .down
  | _ => none

/-- FRAME_H and FRAME_V, the operations that latch FB_BASE (44_protocol_operations.md R230). -/
def Op.isFrame : Op → Bool
  | .frameH | .frameV => true
  | .init | .reset | .sendCmd | .sendData | .waitIdle | .clear | .displaySleep => false

/-- BUSWRITE: the operations that write a byte to the bus, other than INIT (60_exceptions.md R323). -/
def Op.busWrite : Op → Bool
  | .sendCmd | .sendData | .clear | .frameH | .frameV | .displaySleep => true
  | .init | .reset | .waitIdle => false

/-- STATUS.ORIENT is one the FRAME variant takes; other operations do not look (44_protocol_operations.md R240). -/
def Op.variantOk (op : Op) (o : Option Orientation) : Bool :=
  match op with
  | .frameH => o = some .left || o = some .right
  | .frameV => o = some .up || o = some .down
  | .init | .reset | .sendCmd | .sendData | .waitIdle | .clear | .displaySleep => true

/-- The first check a decoded request fails, in the order of 60_exceptions.md R323. The range check is the one of
20_memory.md R96: FB_BASE + FB_LEN - 1 passes 2^32 - 1. -/
def requestError (op : Op) (arg : Byte) (s : State) : Option Result :=
  if op = .init ∧ orientationOf arg = none then some .errOrient
  else if op ≠ .init ∧ s.status.tsetupOk = false then some .errNoSetup
  else if op.busWrite ∧ s.status.pstate = .deepSleep then some .errSleep
  else if op.variantOk s.status.orient = false then some .errVariant
  else if op.isFrame ∧ s.fbBase.toNat + s.params.fbLen > addressSpace then some .errRange
  else none

/-- `accept(op, arg)`, with the sequencer at the first event of the operation (44_protocol_operations.md R230). No byte of
the buffer counts as written during the operation yet (20_memory.md R92). -/
def State.accept (op : Op) (arg : Byte) (s : State) : State :=
  { s with
    status := { s.status with active := true, result := .pending }
    seq := { s.seq with
      opl := op, argl := arg, wll := s.waitLimit, fbl := if op.isFrame then s.fbBase else s.seq.fbl
      item := 0, beat := .start, h := .a, b := 0, j := 0, k := 0, n := 0, w := 0, v := 0 }
    raced := [] }

/-- The host requests an operation: dropped while one is active (60_exceptions.md R326), else checked, and rejected
or accepted (R323). -/
def request (op : Op) (arg : Byte) (s : State) : State :=
  if s.status.active then s.overrun
  else
    match requestError op arg s with
    | some code => s.reject code
    | none => s.accept op arg

/-- The host writes a word to CMD that is an illegal encoding (30_encoding.md R117, R118). -/
def illegalRequest (s : State) : State :=
  if s.status.active then s.overrun else s.reject .errOp

end Sys2Proof.Machine
end

