-- ==== Sys2Proof/Machine/Control.lean ====
section
/-! DEFINITION. Control.lean: INIT, RESET and DISPLAY_SLEEP (44_protocol_operations.md R231, R236, R241): each meaning
is the host's request, each program the operation's pseudocode. -/

namespace Sys2Proof.Machine

/-- PanelReset() (43_protocol_primitives.md R209). -/
def panelReset : List Item :=
  [.rst .low, .delay Config.resetLowMs, .rst .high, .delay Config.resetHighMs, .wait]

/-- Select(s) (00_scope.md R15, 45_panel_command_set.md R298). -/
def select (payload : Byte) : List Item := [.cmd 0xEE, .data payload]

/-- INIT(o) (44_protocol_operations.md R231). -/
def execInit (arg : Byte) (s : State) : StepResult := .next (request .init arg s)

def initProgram : List Item := .setup :: panelReset ++ [.rom]

/-- RESET (44_protocol_operations.md R236). -/
def execReset (s : State) : StepResult := .next (request .reset 0 s)

def resetProgram : List Item := panelReset

/-- DISPLAY_SLEEP (44_protocol_operations.md R241). -/
def execDisplaySleep (s : State) : StepResult := .next (request .displaySleep 0 s)

def displaySleepProgram : List Item :=
  select Config.selBoth ++
  [.cmd 0x04, .wait] ++
  [.cmd 0x12, .data Config.drfParam, .wait] ++
  [.cmd 0x02, .data Config.pofParam, .wait] ++
  [.cmd 0x07, .data Config.dslpParam, .delay Config.sleepTailMs]

end Sys2Proof.Machine
end

