-- ==== Sys2Proof/Machine/Operands.lean ====
section
/-! DEFINITION. Operands.lean: how operands are formed. The color codec (41_color_codec.md), the frame partitioner
(42_frame_partitioner.md) and the bytes INIT_ROM entries stand for (44_protocol_operations.md R233). -/

namespace Sys2Proof.Machine

/-! ### Color codec -/

/-- encode: the lane code table (41_color_codec.md R150). -/
def encodeLane (x : BitVec 2) : BitVec 2 :=
  match x.toNat with
  | 0 => 0b01
  | 1 => 0b10
  | 2 => 0b11
  | _ => 0b00

/-- decode, for statements and tests only (41_color_codec.md R155): the table 01 to 0, 10 to 1, 11 to 2, 00 to 3. -/
def decodeLane (c : BitVec 2) : BitVec 2 :=
  match c.toNat with
  | 1 => 0
  | 2 => 1
  | 3 => 2
  | _ => 3

/-- Lane i of a byte: pixel 0 is bits 7:6, pixel 3 is bits 1:0 (20_memory.md R87). -/
def lane (i : Nat) (s : Byte) : BitVec 2 := s.extractLsb' (6 - 2 * i) 2

/-- Apply a lane code to each of the four lanes in place (41_color_codec.md R153, R154). -/
def mapLanes (f : BitVec 2 → BitVec 2) (s : Byte) : Byte := f (lane 0 s) ++ f (lane 1 s) ++ f (lane 2 s) ++ f (lane 3 s)

/-- EncByte (41_color_codec.md R153). -/
def encByte (s : Byte) : Byte := mapLanes encodeLane s

/-- DecByte, for statements and tests only (41_color_codec.md R155). -/
def decByte (c : Byte) : Byte := mapLanes decodeLane c

/-! ### Frame partitioner -/

/-- offH(h, b, j): the column split (42_frame_partitioner.md R176, R177). -/
def offH (p : Params) (h : Half) (b j : Nat) : Nat :=
  match h with
  | .a => b * p.pitch + j
  | .b => b * p.pitch + p.halfBOffset + j

/-- offV(h, b, j): the row split (42_frame_partitioner.md R178, R179). -/
def offV (p : Params) (h : Half) (b j : Nat) : Nat :=
  match h with
  | .a => j * Config.columnBytes + b
  | .b => (p.halfBOffset + j) * Config.columnBytes + b

/-- The source offset of byte (h, b, j) under a split (42_frame_partitioner.md R170, R171). -/
def sourceOffset (split : Split) (p : Params) (h : Half) (b j : Nat) : Nat :=
  match split with
  | .column => offH p h b j
  | .row => offV p h b j

/-- The other controller. -/
def otherController : Controller → Controller
  | .master => .slave
  | .slave => .master

/-- The controller half A goes to (42_frame_partitioner.md R172-R174). -/
def controllerA (p : Params) : Orientation → Controller
  | .left => .slave
  | .right => .master
  | .up => p.vselUpA
  | .down => otherController p.vselUpA

/-- selA and selB, the select payloads of the two halves (42_frame_partitioner.md R172-R175). -/
def selector (p : Params) (o : Orientation) (h : Half) : Byte :=
  match h with
  | .a => Config.selOf (controllerA p o)
  | .b => Config.selOf (otherController (controllerA p o))

/-! ### INIT_ROM entries -/

/-- The DC level and the byte of an INIT_ROM entry (44_protocol_operations.md R233). There is none for a PSR index outside
the list, which 10_state.md R54 excludes. -/
def romFrame (e : RomEntry) (s : State) : Option (Level × Byte) :=
  match e with
  | .cmd b => some (.low, b)
  | .data b => some (.high, b)
  | .psrM i => (s.seq.psrM[i]?).map (fun b => (.high, b))
  | .psrS i => (s.seq.psrS[i]?).map (fun b => (.high, b))

end Sys2Proof.Machine
end

