-- ==== Sys2Proof/Machine/Frame.lean ====
section
/-! DEFINITION. Frame.lean: CLEAR, FRAME_H and FRAME_V (44_protocol_operations.md R237-R239): each meaning is the host's
request, each program the operation's pseudocode. -/

namespace Sys2Proof.Machine

/-- CLEAR (44_protocol_operations.md R237). -/
def execClear (s : State) : StepResult := .next (request .clear 0 s)

def clearProgram : List Item :=
  select (Config.selOf .master) ++ [.cmd 0x10, .fill] ++
  select (Config.selOf .slave) ++ [.cmd 0x10, .fill]

/-- FRAME_H (44_protocol_operations.md R238). -/
def execFrameH (s : State) : StepResult := .next (request .frameH 0 s)

/-- FRAME_V (44_protocol_operations.md R239). -/
def execFrameV (s : State) : StepResult := .next (request .frameV 0 s)

/-- The pseudocode of both FRAME operations: half A, then half B, each selected and streamed (44_protocol_operations.md R238,
R239, 42_frame_partitioner.md R175). -/
def frameProgram (split : Split) (p : Params) (orient : Option Orientation) : List Item :=
  match orient with
  | some o =>
    select (selector p o .a) ++ [.cmd 0x10, .pixels split .a] ++
    select (selector p o .b) ++ [.cmd 0x10, .pixels split .b]
  | none => [.noOrientation]

end Sys2Proof.Machine
end

