-- ==== Sys2Proof/Machine/Primitives.lean ====
section
/-! DEFINITION. Primitives.lean: SEND_CMD, SEND_DATA and WAIT_IDLE (43_protocol_primitives.md). A meaning is the host's
request (60_exceptions.md R323); the program beside it is the operation's pseudocode, whose events the sequencer emits one
per step (10_state.md R34). -/

namespace Sys2Proof.Machine

/-- SEND_CMD(b) (43_protocol_primitives.md R211). -/
def execSendCmd (arg : Byte) (s : State) : StepResult := .next (request .sendCmd arg s)

def sendCmdProgram (argl : Byte) : List Item := [.cmd argl]

/-- SEND_DATA(b) (43_protocol_primitives.md R212). -/
def execSendData (arg : Byte) (s : State) : StepResult := .next (request .sendData arg s)

def sendDataProgram (argl : Byte) : List Item := [.data argl]

/-- WAIT_IDLE (43_protocol_primitives.md R213). -/
def execWaitIdle (s : State) : StepResult := .next (request .waitIdle 0 s)

def waitIdleProgram : List Item := [.wait]

end Sys2Proof.Machine
end

