-- ==== Sys2Proof/Machine/Panel.lean ====
section
/-! DEFINITION. Panel.lean: the reference reading of the panel (20_memory.md R104), the spec's own choice D30. No rule of
the engine depends on it. A byte that reaches a panel that may sleep or that missed INIT_ROM may do anything
(93_implementation_defined.md 16), and so may an unlisted byte and 0xE9 (10, 11): the record then holds nothing. DESIGN
CHOICE, unsafe where the record claims something (log 15). -/

namespace Sys2Proof.Machine

/-! ### The two controllers -/

/-- The controllers in the selection set do `f`. Where the selection is unknown, either controller may have done it, and
`g` is what is then known (20_memory.md R104 (a)). -/
def Panel.onSelected (f g : ControllerRecord → ControllerRecord) (p : Panel) : Panel :=
  match p.select with
  | .unknown => { p with master := g p.master, slave := g p.slave }
  | .both => { p with master := f p.master, slave := f p.slave }
  | .master => { p with master := f p.master }
  | .slave => { p with slave := f p.slave }

/-- DTM's effect on a controller (20_memory.md R104 (b)). -/
def ControllerRecord.rewind (r : ControllerRecord) : ControllerRecord := { r with ptr := 0 }

/-- PON's and POF's effect on a controller (60_exceptions.md R340). -/
def ControllerRecord.setPower (v : Power) (r : ControllerRecord) : ControllerRecord := { r with power := v }

/-- DSLP's effect on a controller (70_reset_and_hazards.md R373). -/
def ControllerRecord.fallAsleep (r : ControllerRecord) : ControllerRecord := { r with mayBeAsleep := true }

/-- Nothing is known of the controller's frame memory. -/
def ControllerRecord.forgetMemory (r : ControllerRecord) : ControllerRecord := { r with mem := [] }

/-- Store a byte at the write pointer and move it on (20_memory.md R104 (c)). A controller takes HALF_BYTES bytes (R85):
past them nothing is said, and nothing is known of its memory. -/
def ControllerRecord.store (b : Byte) (r : ControllerRecord) : ControllerRecord :=
  { r with mem := if r.ptr < Config.halfBytes then Cells.insert r.ptr b r.mem else [], ptr := r.ptr + 1 }

/-! ### Commands and data bytes -/

/-- Nothing is known of the panel any more, but whether it may sleep and whether it missed INIT_ROM. -/
def Panel.forget (p : Panel) : Panel := Panel.unknown p.master.mayBeAsleep p.slave.mayBeAsleep p.initMissed

/-- A command that is neither MS_CTRL nor DTM ends the frame-memory stream (20_memory.md R104 (c)). -/
def Panel.closeStream (p : Panel) : Panel := { p with stream := .closed }

/-- MS_CTRL: its payload comes next and sets the selection (20_memory.md R104 (a)). The spec does not say which selection
holds from MS_CTRL to its payload, nor which holds where a command follows and no payload. DESIGN CHOICE: it is unknown from
MS_CTRL on (log 15). -/
def Panel.awaitSelector (p : Panel) : Panel := { p with select := .unknown, stream := .selector }

/-- DTM sets each selected controller's write pointer to 0 (20_memory.md R104 (b)). Under an unknown selection the spec does
not say which controller's pointer a DTM rewinds, nor which one its data bytes move on. DESIGN CHOICE: the record keeps both
pointers as they were, and takes both frame memories for unknown from the first such byte on (log 15). No byte is stored at a
pointer kept so: a store follows a DTM under a known selection, which rewinds. -/
def Panel.openStream (p : Panel) : Panel :=
  match p.select with
  | .unknown => { p with stream := .lost }
  | .both | .master | .slave => { p.onSelected .rewind id with stream := .memory }

/-- PON and POF, on the selected controllers (60_exceptions.md R340). -/
def Panel.setPower (v : Power) (p : Panel) : Panel := (p.onSelected (.setPower v) (.setPower .unknown)).closeStream

/-- DSLP, on the selected controllers; its data byte comes next (45_panel_command_set.md R286). -/
def Panel.fallAsleep (p : Panel) : Panel := { p.onSelected .fallAsleep .fallAsleep with stream := .sleep }

/-- The selection a select payload stands for; another payload has no meaning in any source (30_encoding.md R121). -/
def selectionOf (b : Byte) : Selection :=
  match b.toNat with
  | 0x04 => .both
  | 0x05 => .master
  | 0x06 => .slave
  | _ => .unknown

/-- A data byte reaches the panel (20_memory.md R104 (a), (c)). After MS_CTRL a payload outside 30_encoding.md R121 may do
anything (93_implementation_defined.md 10), and what a second data byte does is in no source. DESIGN CHOICE: at either the
record holds nothing any more, as at an unlisted command (log 15). A data byte with no command before it since the last RST
pulse is in no source either (43_protocol_primitives.md R212). DESIGN CHOICE: it leaves the record as it is, which after a
pulse holds nothing, and so does a data byte after a command other than MS_CTRL, DTM and DSLP (log 15). -/
def Panel.takeData (b : Byte) (p : Panel) : Panel :=
  match p.stream with
  | .closed => p
  | .selector =>
    match selectionOf b with
    | .unknown => p.forget
    | .both | .master | .slave => { p with select := selectionOf b, stream := .selected }
  | .selected => p.forget
  | .memory => p.onSelected (.store b) .forgetMemory
  | .lost => { p with master := p.master.forgetMemory, slave := p.slave.forgetMemory }
  | .sleep => if b = Config.dslpParam then p.closeStream else p.forget

/-- The reading accounts for a byte that reaches the panel now: no controller may sleep (70_reset_and_hazards.md R373) and
the last INIT did not time out (R366). -/
def State.panelListens (s : State) : Bool :=
  !s.panel.master.mayBeAsleep && !s.panel.slave.mayBeAsleep && !s.panel.initMissed

/-- The same for a data byte: DSLP's own data byte still belongs to it (44_protocol_operations.md R241). -/
def State.panelTakesData (s : State) : Bool := s.panelListens || (s.panel.stream = .sleep && !s.panel.initMissed)

/-! ### Frames -/

/-- `Spi(code)` with DC Low: the command frame is whole and reaches the panel (43_protocol_primitives.md R201). `effect` is
what the command does under the reference reading. -/
def commandFrame (code : Byte) (effect : Panel → Panel) (s : State) : State :=
  { s with trace := .spi code :: s.trace, panel := if s.panelListens then effect s.panel else s.panel.forget }

/-- `Spi(b)` with DC High: the data frame is whole and reaches the panel (43_protocol_primitives.md R202). -/
def dataFrame (b : Byte) (s : State) : State :=
  { s with
    trace := .spi b :: s.trace
    panel := if s.panelTakesData then s.panel.takeData b else s.panel.forget }

/-- `Spi(b)` with DC Low and a byte outside the alphabet: sent unchanged (30_encoding.md R122), and the panel may do
anything. -/
def unlistedFrame (b : Byte) (s : State) : State := commandFrame b Panel.forget s

/-! ### Beside frames -/

/-- The panel has taken a DSLP command (70_reset_and_hazards.md R373). -/
def State.panelFallsAsleep (s : State) : State := { s with panel := s.panel.fallAsleep }

/-- RST goes Low: both controllers are reset, wake, and nothing is known of them (60_exceptions.md R338, R340,
70_reset_and_hazards.md R378). The pulse of an INIT begins a new initialisation (R366). -/
def State.panelPulsed (s : State) : State :=
  { s with panel := Panel.unknown false false (s.panel.initMissed && decide (s.seq.opl ≠ .init)) }

/-- A wait has timed out: where it was INIT's, the panel has not received INIT_ROM (70_reset_and_hazards.md R366). -/
def State.panelMisses (s : State) : State :=
  { s with panel := { s.panel with initMissed := s.panel.initMissed || decide (s.seq.opl = .init) } }

end Sys2Proof.Machine
end

