-- ==== Sys2Proof/Machine/Wire.lean ====
section
/-! DEFINITION. Wire.lean: the wire commands (45_panel_command_set.md R280-R299). A wire command is a frame with DC Low and
its code (30_encoding.md R119). DC is written in the step before (43_protocol_primitives.md R201); the meaning is the step in
which the byte goes out and the frame is whole. The engine emits the byte and does not execute it; what the panel does is
outside the engine (00_scope.md R6 (g)) but for the reference reading of 20_memory.md R104 (log 3, log 15). -/

namespace Sys2Proof.Machine

/-- PSR = 0x00, panel setting (45_panel_command_set.md R280). -/
def execPsr (s : State) : StepResult := .next (commandFrame 0x00 Panel.closeStream s)

/-- PWR = 0x01 (45_panel_command_set.md R281). -/
def execPwr (s : State) : StepResult := .next (commandFrame 0x01 Panel.closeStream s)

/-- POF = 0x02, power-off (45_panel_command_set.md R282). -/
def execPof (s : State) : StepResult := .next (commandFrame 0x02 (Panel.setPower .off) s)

/-- PFS = 0x03 (45_panel_command_set.md R283). -/
def execPfs (s : State) : StepResult := .next (commandFrame 0x03 Panel.closeStream s)

/-- PON = 0x04, power-on (45_panel_command_set.md R284). -/
def execPon (s : State) : StepResult := .next (commandFrame 0x04 (Panel.setPower .on) s)

/-- BTST = 0x06 (45_panel_command_set.md R285). -/
def execBtst (s : State) : StepResult := .next (commandFrame 0x06 Panel.closeStream s)

/-- DSLP = 0x07, deep sleep (45_panel_command_set.md R286). -/
def execDslp (s : State) : StepResult := .next (commandFrame 0x07 Panel.closeStream s).panelFallsAsleep

/-- DTM = 0x10, data transfer to frame memory (45_panel_command_set.md R287). -/
def execDtm (s : State) : StepResult := .next (commandFrame 0x10 Panel.openStream s)

/-- DRF = 0x12, display refresh (45_panel_command_set.md R288). -/
def execDrf (s : State) : StepResult := .next (commandFrame 0x12 Panel.closeStream s)

/-- PLL = 0x30 (45_panel_command_set.md R289). -/
def execPll (s : State) : StepResult := .next (commandFrame 0x30 Panel.closeStream s)

/-- TSE = 0x41 (45_panel_command_set.md R290). -/
def execTse (s : State) : StepResult := .next (commandFrame 0x41 Panel.closeStream s)

/-- CDI = 0x50 (45_panel_command_set.md R291). -/
def execCdi (s : State) : StepResult := .next (commandFrame 0x50 Panel.closeStream s)

/-- TCON = 0x60 (45_panel_command_set.md R292). -/
def execTcon (s : State) : StepResult := .next (commandFrame 0x60 Panel.closeStream s)

/-- TRES = 0x61, resolution (45_panel_command_set.md R293). -/
def execTres (s : State) : StepResult := .next (commandFrame 0x61 Panel.closeStream s)

/-- HTOTAL = 0x62, horizontal total (45_panel_command_set.md R294). -/
def execHtotal (s : State) : StepResult := .next (commandFrame 0x62 Panel.closeStream s)

/-- GSST = 0x65, gate/source start (45_panel_command_set.md R295). -/
def execGsst (s : State) : StepResult := .next (commandFrame 0x65 Panel.closeStream s)

/-- CCSET = 0xE0 (45_panel_command_set.md R296). -/
def execCcset (s : State) : StepResult := .next (commandFrame 0xE0 Panel.closeStream s)

/-- PWS = 0xE3 (45_panel_command_set.md R297). -/
def execPws (s : State) : StepResult := .next (commandFrame 0xE3 Panel.closeStream s)

/-- MS_CTRL = 0xEE, controller select (45_panel_command_set.md R298). -/
def execMsCtrl (s : State) : StepResult := .next (commandFrame 0xEE Panel.awaitSelector s)

/-- VENDOR_E9 = 0xE9, the unnamed vendor command; its effect on the panel may be anything (45_panel_command_set.md R299). -/
def execVendorE9 (s : State) : StepResult := .next (commandFrame 0xE9 Panel.forget s)

end Sys2Proof.Machine
end

