-- ==== Sys2Proof/Machine/Dispatch.lean ====
section
/-! DEFINITION. Dispatch.lean: one arm per instruction, each one call of its meaning. -/

namespace Sys2Proof.Machine
open Host

def exec (i : Instr) (s : State) : Host.Outcome State Fault Refusal :=
  match i with
  | .init arg => Sys2Proof.Machine.execInit arg s
  | .reset => Sys2Proof.Machine.execReset s
  | .sendCmd arg => Sys2Proof.Machine.execSendCmd arg s
  | .sendData arg => Sys2Proof.Machine.execSendData arg s
  | .waitIdle => Sys2Proof.Machine.execWaitIdle s
  | .clear => Sys2Proof.Machine.execClear s
  | .frameH => Sys2Proof.Machine.execFrameH s
  | .frameV => Sys2Proof.Machine.execFrameV s
  | .displaySleep => Sys2Proof.Machine.execDisplaySleep s
  | .psr => Sys2Proof.Machine.execPsr s
  | .pwr => Sys2Proof.Machine.execPwr s
  | .pof => Sys2Proof.Machine.execPof s
  | .pfs => Sys2Proof.Machine.execPfs s
  | .pon => Sys2Proof.Machine.execPon s
  | .btst => Sys2Proof.Machine.execBtst s
  | .dslp => Sys2Proof.Machine.execDslp s
  | .dtm => Sys2Proof.Machine.execDtm s
  | .drf => Sys2Proof.Machine.execDrf s
  | .pll => Sys2Proof.Machine.execPll s
  | .tse => Sys2Proof.Machine.execTse s
  | .cdi => Sys2Proof.Machine.execCdi s
  | .tcon => Sys2Proof.Machine.execTcon s
  | .tres => Sys2Proof.Machine.execTres s
  | .htotal => Sys2Proof.Machine.execHtotal s
  | .gsst => Sys2Proof.Machine.execGsst s
  | .ccset => Sys2Proof.Machine.execCcset s
  | .pws => Sys2Proof.Machine.execPws s
  | .msCtrl => Sys2Proof.Machine.execMsCtrl s
  | .vendorE9 => Sys2Proof.Machine.execVendorE9 s

end Sys2Proof.Machine
end

