-- ==== Sys2Proof/Machine/Flags.lean ====
section
/-! DEFINITION. Flags.lean: the host's view of the registers, field by field (10_state.md R35-R48). The engine has no
condition codes; its flags are fields of STATUS (10_state.md R60). -/

namespace Sys2Proof.Machine

/-- STATUS.PSTATE (10_state.md R39). -/
def PState.code : PState → BitVec 2
  | .unconfigured => 0
  | .ready => 1
  | .deepSleep => 3

/-- STATUS.ORIENT (10_state.md R41). -/
def orientCode : Option Orientation → BitVec 3
  | none => 0
  | some .left => 1
  | some .right => 2
  | some .up => 3
  | some .down => 4

/-- STATUS.RESULT (60_exceptions.md R320). -/
def Result.code : Result → BitVec 4
  | .ok => 0x0
  | .errSetup => 0x1
  | .errOrient => 0x2
  | .errNoSetup => 0x3
  | .errSleep => 0x4
  | .errTimeout => 0x5
  | .errOp => 0x6
  | .errRange => 0x7
  | .errVariant => 0x8
  | .pending => 0xF

/-- STATUS as the host reads it (10_state.md R37-R44). -/
def Status.word (t : Status) : Word :=
  0#19 ++ BitVec.ofBool t.ovr ++ t.result.code ++ orientCode t.orient ++ BitVec.ofBool t.tsetupOk ++ t.pstate.code ++
    BitVec.ofBool t.busyWait ++ BitVec.ofBool t.active

/-- A host write to STATUS clears OVR where bit 12 is 1, and changes nothing else (10_state.md R43, R44). -/
def writeStatus (v : Word) (s : State) : State :=
  if v.getLsbD 12 then { s with status := { s.status with ovr := false } } else s

/-- A host write to FB_BASE (10_state.md R45). -/
def writeFbBase (v : Word) (s : State) : State := { s with fbBase := v }

/-- A host write to WAIT_LIMIT: bits 31:16 are ignored (10_state.md R46). -/
def writeWaitLimit (v : Word) (s : State) : State := { s with waitLimit := v.setWidth 16 }

/-- POLLS + 1, saturating at 0xFFFFFFFF (10_state.md R47, 43_protocol_primitives.md R205). -/
def pollsNext (p : Word) : Word := if p = 0xFFFFFFFF then p else p + 1

/-- What a read at a byte offset of the register window returns; CMD and the reserved offsets read 0 (10_state.md R35,
R36, R48). -/
def registerValue (offset : Nat) (s : State) : Word :=
  match offset with
  | 0x04 => s.status.word
  | 0x08 => s.fbBase
  | 0x0C => s.waitLimit.setWidth 32
  | 0x10 => s.polls
  | _ => 0

/-- An access is inside the interface: 32 bits wide, aligned to 4 bytes, in the 32-byte window (20_memory.md R81, R82). -/
def accessOk (offset width : Nat) : Bool := width = 32 && offset % 4 = 0 && offset < 32

end Sys2Proof.Machine
end

