-- ==== Sys2Proof/Machine/Engine.lean ====
section
/-! DEFINITION. Engine.lean: the sequencer. Each engine step emits exactly the one event the sequencer position names and
moves the position on; after the last event a step ends the operation (10_state.md R33, R34, 70_reset_and_hazards.md R377).
Every byte it sends goes out as a wire frame, which is decoded and, where it is a wire command, run by `exec`. -/

namespace Sys2Proof.Machine

/-! ### Wire frames -/

/-- `Spi(b)`: with the level of DC the byte makes a wire frame (30_encoding.md R119), and the frame runs: a wire command by
its meaning, a data frame and an unlisted command byte as the bytes they are. -/
def transfer (b : Byte) (s : State) : StepResult :=
  match decodeFrame (wireFrame (s.dc = .high) b) with
  | .ok i => exec i s
  | .error .dataFrame => .next (dataFrame b s)
  | .error _ => .next (unlistedFrame b s)

/-- SendCommand and SendData, one event a step: first DC, then the byte (43_protocol_primitives.md R201, R202, R204). `after`
moves the sequencer on. -/
def sendByte (lvl : Level) (b : Byte) (after : State → State) (s : State) : StepResult :=
  match s.seq.beat with
  | .framed => mapNext after (transfer b s)
  | .start | .polled | .again | .fetched => .next ((s.writeDc lvl).setBeat .framed)

/-! ### Loops -/

/-- On to the next INIT_ROM entry, or to the next line (44_protocol_operations.md R231). -/
def nextRom (s : State) : State :=
  if s.seq.k + 1 < s.params.initRom.length then { s with seq := { s.seq with k := s.seq.k + 1, beat := .start } }
  else s.nextItem

/-- On to the next fill byte, or to the next line (44_protocol_operations.md R237). -/
def nextFill (s : State) : State :=
  if s.seq.n + 1 < Config.halfBytes then { s with seq := { s.seq with n := s.seq.n + 1, beat := .start } }
  else s.nextItem

/-- On to the next byte of a half, block-major, or to the next line (42_frame_partitioner.md R180). -/
def nextPixel (s : State) : State :=
  if s.seq.j + 1 < Config.lineBytes then { s with seq := { s.seq with j := s.seq.j + 1, beat := .start } }
  else if s.seq.b + 1 < Config.columnBytes then
    { s with seq := { s.seq with b := s.seq.b + 1, j := 0, beat := .start } }
  else s.nextItem

/-! ### Lines of the pseudocode -/

/-- The end of an operation: INIT leaves READY and DISPLAY_SLEEP leaves DEEP_SLEEP (10_state.md R49), then `finish`. -/
def endOperation (s : State) : State :=
  match s.seq.opl with
  | .init => (s.setPState .ready).finish
  | .displaySleep => (s.setPState .deepSleep).finish
  | .reset | .sendCmd | .sendData | .waitIdle | .clear | .frameH | .frameV => s.finish

/-- `Setup` answered ok: TSETUP_OK and ORIENT are written and the PSR pair is selected in the same step
(44_protocol_operations.md R231, R232). -/
def setupDone (o : Orientation) (s : State) : State :=
  { s with
    status := { s.status with tsetupOk := true, orient := some o }
    seq := { s.seq with psrM := (s.params.psrTable.entry o).master, psrS := (s.params.psrTable.entry o).slave } }

/-- `Setup` answered fail (44_protocol_operations.md R234). -/
def setupFailed (s : State) : State :=
  State.raise .errSetup { s with status := { s.status with tsetupOk := false, pstate := .unconfigured } }

/-- INIT's `Setup` event (44_protocol_operations.md R231). -/
def setupStep (s : State) : StepResult :=
  let t := s.takeSetup.emit (.setup s.setupAnswer)
  if s.setupAnswer then
    match orientationOf s.seq.argl with
    | some o => .next (setupDone o t).nextItem
    | none => .fault .invalidOrientation
  else .next (setupFailed t)

/-- `PinWrite(RST, lvl)`; at the Low level PSTATE becomes UNCONFIGURED in the same step (43_protocol_primitives.md R209), and
nothing is known of the panel any more (70_reset_and_hazards.md R378, 60_exceptions.md R340). -/
def rstStep (lvl : Level) (s : State) : State :=
  match lvl with
  | .low => ((s.writeRst .low).setPState .unconfigured).panelPulsed.nextItem
  | .high => (s.writeRst .high).nextItem

/-- `Delay(ms)` of a fixed sequence. -/
def delayStep (ms : Nat) (s : State) : State := (s.emit (.delay ms)).nextItem

/-- One BUSY read of WaitUntilIdle (43_protocol_primitives.md R205, R207). -/
def pollBusy (s : State) : State :=
  let t := s.takeBusy.emit (.pinRead s.busyAnswer)
  match s.busyAnswer with
  | .high => (t.setBusyWait false).nextItem
  | .low =>
    if s.seq.wll ≠ 0 ∧ s.seq.w = s.seq.wll.toNat then (t.raise .errTimeout).panelMisses
    else (t.setBusyWait true).setBeat .polled

/-- The poll delay of WaitUntilIdle (43_protocol_primitives.md R205). -/
def pollDelay (s : State) : State :=
  { s.emit (.delay Config.pollMs) with
    polls := pollsNext s.polls
    seq := { s.seq with w := s.seq.w + 1, beat := .again } }

/-- WaitUntilIdle begins: POLLS and w are 0 (43_protocol_primitives.md R205; log 13). -/
def waitBegins (s : State) : State := { s with polls := 0, seq := { s.seq with w := 0 } }

/-- WaitUntilIdle() (43_protocol_primitives.md R205). -/
def waitStep (s : State) : State :=
  match s.seq.beat with
  | .polled => pollDelay s
  | .again => pollBusy s
  | .start | .framed | .fetched => pollBusy (waitBegins s)

/-- The INIT_ROM loop (44_protocol_operations.md R231, R233). With no entry left the operation ends. -/
def romStep (s : State) : StepResult :=
  match s.params.initRom[s.seq.k]? with
  | none => .next (endOperation s)
  | some e =>
    match romFrame e s with
    | none => .fault .romEntry
    | some f => sendByte f.1 f.2 nextRom s

/-- The byte host memory gives a frame-buffer read: what it holds, or a free value where the host wrote the byte during the
operation (20_memory.md R92). -/
def frameBufferByte (a : Nat) (s : State) : Byte :=
  if a ∈ s.raced then Config.racedByte s.draws else Memory.read s.memory a

/-- `MemRead(a, 1)` (00_scope.md R14, 20_memory.md R84, R92). The half index is the one being streamed. -/
def fetchByte (a : Nat) (half : Half) (s : State) : StepResult :=
  if a < addressSpace then
    .next { s.emit (.fbRead a) with
      seq := { s.seq with v := frameBufferByte a s, h := half, beat := .fetched }
      draws := if a ∈ s.raced then s.draws + 1 else s.draws }
  else .fault .frameBufferAddress

/-- One byte of a half: read, then recoded and sent as a data frame (44_protocol_operations.md R238, R239, 20_memory.md
R94). -/
def pixelStep (split : Split) (half : Half) (s : State) : StepResult :=
  match s.seq.beat with
  | .fetched | .framed => sendByte .high (encByte s.seq.v) nextPixel s
  | .start | .polled | .again => fetchByte (s.seq.fbl.toNat + sourceOffset split s.params half s.seq.b s.seq.j) half s

/-- The next event of a line. -/
def itemStep (i : Item) (s : State) : StepResult :=
  match i with
  | .setup => setupStep s
  | .rst lvl => .next (rstStep lvl s)
  | .delay ms => .next (delayStep ms s)
  | .wait => .next (waitStep s)
  | .cmd b => sendByte .low b State.nextItem s
  | .data b => sendByte .high b State.nextItem s
  | .rom => romStep s
  | .fill => sendByte .high Config.fillByte nextFill s
  | .pixels split half => pixelStep split half s
  | .noOrientation => .fault .invalidOrientation

/-! ### The sequencer -/

/-- The pseudocode of the accepted operation (43_protocol_primitives.md R211-R213, 44_protocol_operations.md R231-R241). -/
def program (s : State) : List Item :=
  match s.seq.opl with
  | .init => initProgram
  | .reset => resetProgram
  | .sendCmd => sendCmdProgram s.seq.argl
  | .sendData => sendDataProgram s.seq.argl
  | .waitIdle => waitIdleProgram
  | .clear => clearProgram
  | .frameH => frameProgram .column s.params s.status.orient
  | .frameV => frameProgram .row s.params s.status.orient
  | .displaySleep => displaySleepProgram

/-- One engine step (10_state.md R34). While no operation is active the engine emits nothing and holds its registers
(60_exceptions.md R341). -/
def engineStep (s : State) : StepResult :=
  if s.status.active then
    match (program s)[s.seq.item]? with
    | some i => itemStep i s
    | none => .next (endOperation s)
  else .next s

end Sys2Proof.Machine
end

