-- ==== Sys2Proof/Machine/Host.lean ====
section
/-! DEFINITION. Host.lean: the register window as the host accesses it (10_state.md R35-R48, 20_memory.md R82), the host's
stores into the frame-buffer space, engine reset (70_reset_and_hazards.md R360-R363), and the assembler's statements
(30_encoding.md R125-R132). -/

namespace Sys2Proof.Machine

/-! ### Register window -/

/-- A write of a word to CMD: a legal word is the instruction it decodes to, any other is rejected with ERR_OP
(10_state.md R36, 30_encoding.md R117). -/
def writeCmd (w : Word) (s : State) : StepResult :=
  match decodeRequest w with
  | .ok i => exec i s
  | .error _ => .next (illegalRequest s)

/-- A write inside the window. POLLS is read-only and the reserved offsets ignore writes (10_state.md R35, R48; log 18). -/
def writeRegister (offset : Nat) (v : Word) (s : State) : StepResult :=
  match offset with
  | 0x00 => writeCmd v s
  | 0x04 => .next (writeStatus v s)
  | 0x08 => .next (writeFbBase v s)
  | 0x0C => .next (writeWaitLimit v s)
  | _ => .next s

/-- A host write access: refused unless 32 bits wide, aligned and inside the window (20_memory.md R82). -/
def hostWrite (offset width : Nat) (v : Word) (s : State) : StepResult :=
  if accessOk offset width then writeRegister offset v s else .refused (.registerAccess offset width)

/-- A host read access; reads have no side effect on the engine (20_memory.md R82, R91). -/
def hostReadRegister (offset width : Nat) (s : State) : StepResult :=
  if accessOk offset width then .next { s with hostRead := registerValue offset s }
  else .refused (.registerAccess offset width)

/-! ### Host memory -/

/-- The address lies in the buffer of a running FRAME op (20_memory.md R92). -/
def inActiveBuffer (a : Nat) (s : State) : Bool :=
  s.status.active && s.seq.opl.isFrame && s.seq.fbl.toNat ≤ a && a < s.seq.fbl.toNat + s.params.fbLen

/-- The host stores a byte of its memory. A store into the buffer of a running FRAME op is a race (20_memory.md R92). -/
def hostStore (a : Nat) (v : Byte) (s : State) : State :=
  { s with
    memory := Memory.write s.memory a v
    raced := if inActiveBuffer a s && !s.raced.contains a then a :: s.raced else s.raced }

/-! ### Engine reset and sync -/

/-- Engine reset: every register at its reset value in one step, no event; the parameters stay, the surroundings stay, and
nothing is known of the panel (70_reset_and_hazards.md R360-R363; log 8, log 19). -/
def engineReset (s : State) : State :=
  { s with
    status := Status.reset, fbBase := 0, waitLimit := 0, polls := 0, seq := Sequencer.reset
    raced := [], panel := Panel.reset }

/-- One round of `sync`: read STATUS, and go round again, after a step left to the engine, while ACTIVE reads 1
(30_encoding.md R125). -/
def syncRound (s : State) : State :=
  { s with
    hostRead := s.status.word
    inputs := if s.status.active then .tick :: .sync :: s.inputs else s.inputs }

/-- One action at the host side. -/
def hostStep (a : HostAction) (s : State) : StepResult :=
  match a with
  | .write offset width v => hostWrite offset width v s
  | .read offset width => hostReadRegister offset width s
  | .storeByte addr v => .next (hostStore addr.toNat v s)
  | .engineReset => .next (engineReset s)
  | .tick => engineStep s
  | .sync => .next (syncRound s)

/-! ### Assembler statements (30_encoding.md R125-R132) -/

/-- One statement of the assembly syntax (30_encoding.md R125). -/
inductive Statement
  | op (i : Instr)
  | wr (offset : Nat) (value : Word)
  | rd (offset : Nat)
  | sync
  deriving DecidableEq, Repr

/-- The commands of the operator's shell (30_encoding.md R127-R132). -/
inductive OperatorCommand
  | write (cmd : Byte) (data : List Byte)
  | init (direction : Byte)
  | clear
  | display
  | reset
  | status
  | read (reg : Byte)
  | help
  | exit
  deriving DecidableEq, Repr

/-- Why the assembler refuses a command. -/
inductive AssemblerError
  /-- `read <reg>` is unsupported and always reports so (30_encoding.md R131). -/
  | readUnsupported
  /-- `init <direction>` takes 1..4 (30_encoding.md R125, R128). -/
  | noSuchDirection
  deriving DecidableEq, Repr

/-- A statement as host actions: a mnemonic is `wr CMD, <HRW>` and `sync` (30_encoding.md R125). A wire command is no
mnemonic of the assembly. R125 gives the mnemonic `init` the operands 1..4 and does not say what another one assembles to.
DESIGN CHOICE: `assemble` gives its HRW, which the engine rejects with ERR_ORIENT; only `expand` refuses it (log 22). -/
def assemble : Statement → List HostAction
  | .op i =>
    match encode i with
    | .hrw w => [.write 0x00 32 w, .sync]
    | .wf _ => []
  | .wr offset v => [.write offset 32 v]
  | .rd offset => [.read offset 32]
  | .sync => [.sync]

/-- The expansion of an operator command (30_encoding.md R127-R132). -/
def expand : OperatorCommand → Except AssemblerError (List Statement)
  | .write cmd data => .ok (.op (.sendCmd cmd) :: data.map (fun d => .op (.sendData d)))
  | .init d => if validOrientationArg d then .ok [.op (.init d)] else .error .noSuchDirection
  | .clear => .ok [.op .clear]
  | .display => .ok [.op .displaySleep]
  | .reset => .ok [.op .reset]
  | .status => .ok [.rd 0x04]
  | .read _ => .error .readUnsupported
  | .help => .ok []
  | .exit => .ok []

/-! ### Placing an instruction where the next step runs it -/

/-- A host request word is the next CMD write of the host. -/
def placeRequest (w : Nat) (s : State) : State := { s with inputs := .write 0x00 32 (BitVec.ofNat 32 w) :: s.inputs }

/-- A wire frame is on the bus: DC has been written to its level and its byte goes out in the next step, which is left to
the engine. The engine is half way through the send of that byte. -/
def placeFrame (w : Nat) (s : State) : State :=
  let isData := w.testBit 8
  let lvl : Level := if isData then .high else .low
  let t := s.accept (if isData then .sendData else .sendCmd) (BitVec.ofNat 8 w)
  { (t.writeDc lvl).setBeat .framed with inputs := .tick :: s.inputs }

end Sys2Proof.Machine
end

