-- ==== Sys2Proof/Machine/Step.lean ====
section
/-! DEFINITION. Step.lean: one step of the machine. The head of the host's queue says whether a host access, the
platform's reset or the engine takes it (20_memory.md R95); with the queue empty the engine does. -/

namespace Sys2Proof.Machine

def step (s : State) : Host.Outcome State Fault Refusal :=
  match s.inputs with
  | [] => engineStep s
  | a :: rest => hostStep a { s with inputs := rest }

/-- The state whose very next step runs the instruction of a table word: a host request word as the next CMD write, a wire
frame as the frame now on the bus (log 2, log 3). -/
def State.withFetchWord (s : State) (nbits w : Nat) : State :=
  if nbits ≤ 16 then placeFrame w s else placeRequest w s

end Sys2Proof.Machine
end

