-- ==== Sys2Proof/Safety.lean ====
section
/-! DEFINITION. Safety.lean: the words the statements are made in. A run of the machine; the invariants of a state the engine
can be in; and the event streams the spec writes out for its operations (95_test_vectors.md), as functions of the operands. -/

namespace Sys2Proof.Machine

/-- `n` steps of the machine, stopping at the first fault or refusal. -/
def run : Nat → State → StepResult
  | 0, s => .next s
  | n + 1, s =>
    match step s with
    | .next t => run n t
    | .fault r => .fault r
    | .refused r => .refused r

/-! ### Invariants -/

/-- What holds of STATUS and the sequencer in every state the engine can be in. -/
structure Consistent (s : State) : Prop where
  /-- RESULT is PENDING exactly while an operation is active (10_state.md R37, R42, 60_exceptions.md R320). -/
  pending : s.status.active = true ↔ s.status.result = .pending
  /-- With TSETUP_OK = 1, ORIENT holds an orientation (60_exceptions.md R323). -/
  oriented : s.status.tsetupOk = true → s.status.orient ≠ none
  /-- PSTATE leaves UNCONFIGURED only after a setup that succeeded (10_state.md R49). -/
  configured : s.status.pstate ≠ .unconfigured → s.status.tsetupOk = true
  /-- BUSYWAIT is 1 exactly inside a wait, after a Low read and before the next read (10_state.md R38, R50). -/
  waiting : s.status.busyWait = true ↔ s.status.active = true ∧ (program s)[s.seq.item]? = some .wait ∧
    (s.seq.beat = .polled ∨ s.seq.beat = .again)
  /-- An operation past its setup runs with TSETUP_OK = 1 (60_exceptions.md R324). -/
  setUp : s.status.active = true → s.seq.opl ≠ .init ∨ s.seq.item ≠ 0 → s.status.tsetupOk = true
  /-- A running INIT names an orientation (44_protocol_operations.md R231). -/
  initArg : s.status.active = true → s.seq.opl = .init → orientationOf s.seq.argl ≠ none
  /-- INIT past its setup holds the PSR pair of the latched orientation (44_protocol_operations.md R232). -/
  psrLatched : s.status.active = true → s.seq.opl = .init → s.seq.item ≠ 0 → ∃ o, s.status.orient = some o ∧
    s.seq.psrM = (s.params.psrTable.entry o).master ∧ s.seq.psrS = (s.params.psrTable.entry o).slave
  /-- INIT past its RST Low event runs in UNCONFIGURED (10_state.md R49). -/
  initReset : s.status.active = true → s.seq.opl = .init → 2 ≤ s.seq.item → s.status.pstate = .unconfigured
  /-- A running FRAME op fits the latched orientation (44_protocol_operations.md R240). -/
  variant : s.status.active = true → s.seq.opl.variantOk s.status.orient = true
  /-- A running FRAME op reads below 2^32 (20_memory.md R96). -/
  range : s.status.active = true → s.seq.opl.isFrame = true → s.seq.fbl.toNat + s.params.fbLen ≤ addressSpace
  /-- No bus-writing operation runs in DEEP_SLEEP (60_exceptions.md R325). -/
  awake : s.status.active = true → s.seq.opl.busWrite = true → s.status.pstate ≠ .deepSleep
  /-- No copy of a frame-buffer byte outlasts its operation (20_memory.md R84; log 14). -/
  noCopy : s.status.active = false → s.seq.v = 0
  /-- The loop counters stay below their limits (10_state.md R32, R34). -/
  bounded : s.status.active = true →
    s.seq.b < Config.columnBytes ∧ s.seq.j < Config.lineBytes ∧ s.seq.n < Config.halfBytes

/-- Every byte in the event stream follows directly on a DC write (43_protocol_primitives.md R203), and a byte that is due
next has its DC write as the newest event. -/
structure Framed (s : State) : Prop where
  sends : ∀ newer b older, s.trace = newer ++ Event.spi b :: older → ∃ lvl rest, older = Event.pinWrite .dc lvl :: rest
  due : s.status.active = true → s.seq.beat = .framed → ∃ rest, s.trace = Event.pinWrite .dc s.dc :: rest

/-- The engine is idle and the host leaves every step to it. -/
def Idle (s : State) : Prop := s.status.active = false ∧ s.inputs = []

/-- Two states that differ in the internal registers of 10_state.md R32, and in v (log 14), only. -/
def sameButInternals (s t : State) : Prop := t = { s with seq := t.seq }

/-- Two outcomes that agree but for the internal registers. -/
def agreeButInternals : StepResult → StepResult → Prop
  | .next s, .next t => sameButInternals s t
  | .fault a, .fault b => a = b
  | .refused a, .refused b => a = b
  | _, _ => False

/-- A request was accepted (44_protocol_operations.md R230): the operands are latched, STATUS reads active and PENDING, the
sequencer stands before the operation's first event, and nothing else changed. -/
structure Accepted (op : Op) (arg : Byte) (s t : State) : Prop where
  frame : t = { s with status := t.status, seq := t.seq, raced := [] }
  status : t.status = { s.status with active := true, result := .pending }
  opl : t.seq.opl = op
  argl : t.seq.argl = arg
  wll : t.seq.wll = s.waitLimit
  fbl : op.isFrame = true → t.seq.fbl = s.fbBase
  first : t.seq.item = 0 ∧ t.seq.beat = .start

/-- STATUS after an operation has ended with `code` and left PSTATE at `p`. -/
def Status.ended (t : Status) (code : Result) (p : PState) : Status :=
  { t with active := false, busyWait := false, result := code, pstate := p }

/-- The word is an illegal HRW encoding (30_encoding.md R118), by its fields as numbers. -/
def illegalWord (w : Word) : Prop :=
  w.toNat % 16 = 0 ∨ 10 ≤ w.toNat % 16 ∨ w.toNat / 16 % 16 ≠ 0 ∨ w.toNat / 65536 ≠ 0 ∨
    (w.toNat / 256 % 256 ≠ 0 ∧ w.toNat % 16 ≠ 1 ∧ w.toNat % 16 ≠ 3 ∧ w.toNat % 16 ≠ 4)

/-- The operations other than INIT, as instructions (30_encoding.md R112). -/
def needsSetup : Instr → Prop
  | .reset | .sendCmd _ | .sendData _ | .waitIdle | .clear | .frameH | .frameV | .displaySleep => True
  | _ => False

/-- The operations that write a byte to the bus, other than INIT (60_exceptions.md R325). -/
def writesBus : Instr → Prop
  | .sendCmd _ | .sendData _ | .clear | .frameH | .frameV | .displaySleep => True
  | _ => False

/-! ### Event streams (95_test_vectors.md), oldest event first -/

namespace Expect

/-- c(b): a command frame. -/
def c (b : Byte) : List Event := [.pinWrite .dc .low, .spi b]

/-- d(b): a data frame. -/
def d (b : Byte) : List Event := [.pinWrite .dc .high, .spi b]

/-- Select(s). -/
def select (payload : Byte) : List Event := c 0xEE ++ d payload

/-- (R→L W(100))^n. -/
def lowPolls (n : Nat) : List Event := (List.replicate n [Event.pinRead .low, .delay 100]).flatten

/-- (R→L W(100))^n R→H: a wait that reads BUSY Low n times. -/
def wait (n : Nat) : List Event := lowPolls n ++ [.pinRead .high]

/-- RL W(200) RH W(200): the reset pulse. -/
def pulse : List Event := [.pinWrite .rst .low, .delay 200, .pinWrite .rst .high, .delay 200]

/-- The frame of an INIT_ROM entry with the PSR lists of an orientation. -/
def romEntry (p : PsrPair) : RomEntry → List Event
  | .cmd b => c b
  | .data b => d b
  | .psrM i => d (p.master.getD i 0)
  | .psrS i => d (p.slave.getD i 0)

/-- ROM: the INIT_ROM frames. -/
def rom (params : Params) (o : Orientation) : List Event :=
  params.initRom.flatMap (romEntry (params.psrTable.entry o))

/-- CLEAR's stream (95_test_vectors.md E5). -/
def clear : List Event :=
  select 0x05 ++ c 0x10 ++ (List.replicate 27200 (d 0x55)).flatten ++
  select 0x06 ++ c 0x10 ++ (List.replicate 27200 (d 0x55)).flatten

/-- One half of a FRAME op: block-major, each byte read and then sent recoded. -/
def half (offset : Nat → Nat → Nat) (base : Nat) (mem : List Host.Cell) : List Event :=
  (List.range 272).flatMap (fun b => (List.range 100).flatMap (fun j =>
    Event.fbRead (base + offset b j) :: d (encByte (Memory.read mem (base + offset b j)))))

/-- A FRAME op's stream (44_protocol_operations.md R238, R239). -/
def frame (selA selB : Byte) (offA offB : Nat → Nat → Nat) (base : Nat) (mem : List Host.Cell) : List Event :=
  select selA ++ c 0x10 ++ half offA base mem ++ select selB ++ c 0x10 ++ half offB base mem

/-- DISPLAY_SLEEP's stream with n1, n2, n3 Low reads in its waits (95_test_vectors.md 2.4). -/
def displaySleep (n1 n2 n3 : Nat) : List Event :=
  select 0x04 ++ c 0x04 ++ wait n1 ++ c 0x12 ++ d 0x00 ++ wait n2 ++ c 0x02 ++ d 0x00 ++ wait n3 ++
  c 0x07 ++ d 0xA5 ++ [.delay 200]

/-- The wire commands and their codes (30_encoding.md R120). -/
def wireCodes : List (Instr × Byte) :=
  [(.psr, 0x00), (.pwr, 0x01), (.pof, 0x02), (.pfs, 0x03), (.pon, 0x04), (.btst, 0x06), (.dslp, 0x07), (.dtm, 0x10),
    (.drf, 0x12), (.pll, 0x30), (.tse, 0x41), (.cdi, 0x50), (.tcon, 0x60), (.tres, 0x61), (.htotal, 0x62),
    (.gsst, 0x65), (.ccset, 0xE0), (.pws, 0xE3), (.msCtrl, 0xEE), (.vendorE9, 0xE9)]

/-- n Low answers, then a High one. -/
def lowsThenHigh (n : Nat) : List Level := List.replicate n .low ++ [.high]

end Expect

end Sys2Proof.Machine
end

