-- ==== Sys2Proof/Certificates/Slice0/Obligations.lean ====
section
/-! DEFINITION. Obligations.lean: the statements for the provers. Each formalises rules of spec/; its docstring names them. -/

open Sys2Proof Sys2Proof.Machine

/-! ### Encoding -/

/-- Decoding the encoding of any instruction gives the instruction back, with every operand value (30_encoding.md R111,
R112, R119, R120). -/
def Obligations.DecodeOfEncodeIsTheInstruction : Prop :=
  ∀ i : Instr, decode (encode i) = .ok i

/-- A word that decodes is the encoding of what it decodes to: no bit of a word is ignored (30_encoding.md R116). -/
def Obligations.EncodeOfDecodeIsTheWord : Prop :=
  ∀ (e : Encoded) (i : Instr), decode e = .ok i → encode i = e

/-- Words written out from the spec decode to the instructions they stand for (30_encoding.md R126, R120). -/
def Obligations.SpecWordsDecode : Prop :=
  decodeTableWord 32 0x00000301 = some (.init 3) ∧ decodeTableWord 32 0x00001203 = some (.sendCmd 0x12) ∧
  decodeTableWord 32 0x00000008 = some .frameV ∧ decodeTableWord 32 0x00000009 = some .displaySleep ∧
  decodeTableWord 16 0x0EE = some .msCtrl ∧ decodeTableWord 16 0x010 = some .dtm ∧
  decodeTableWord 16 0x110 = none ∧ decodeTableWord 32 0x00010009 = none

/-- An illegal word written to CMD while no operation is active is rejected with ERR_OP and has no other effect
(30_encoding.md R118). A word that is not illegal decodes. -/
def Obligations.IllegalWordRejected : Prop :=
  (∀ (s : State) (w : Word) (rest : List HostAction), s.inputs = .write 0 32 w :: rest → s.status.active = false →
    illegalWord w → step s = .next { s with inputs := rest, status := { s.status with result := .errOp } }) ∧
  (∀ w : Word, ¬ illegalWord w → ∃ i, decodeRequest w = .ok i)

/-! ### A step runs the decoded instruction -/

/-- When the word the host writes to CMD decodes to i, the step is exec of i, after the write is taken from the queue. While
an operation is active the spec has the write dropped undecoded (10_state.md R36, 60_exceptions.md R326); that the step is
exec of i then too, and exec's effect the drop, is the model's reading (notes/assumptions/21.md). -/
def Obligations.StepRunsTheWrittenRequest : Prop :=
  ∀ (s : State) (w : Word) (i : Instr) (rest : List HostAction), s.inputs = .write 0 32 w :: rest →
    decodeRequest w = .ok i → step s = exec i { s with inputs := rest }

/-- When the sequencer is due to transfer a command byte, of a SendCommand line or of a command entry of INIT_ROM, and the
frame on the bus decodes to i, the step is exec of i, and the sequencer then moves on: to the next line, or to the next
entry. That exec of a wire command is the step of its byte alone is the model's choice (notes/assumptions/3.md), and so is how
the position is numbered (notes/assumptions/24.md). -/
def Obligations.StepRunsTheWireCommand : Prop :=
  ∀ (s : State) (b : Byte) (i : Instr), s.inputs = [] → s.status.active = true → s.seq.beat = .framed → s.dc = .low →
    decodeFrame (wireFrame false b) = .ok i →
    ((program s)[s.seq.item]? = some (.cmd b) → step s = mapNext State.nextItem (exec i s)) ∧
    (∀ e, (program s)[s.seq.item]? = some .rom → s.params.initRom[s.seq.k]? = some e → romFrame e s = some (.low, b) →
      step s = mapNext nextRom (exec i s))

/-- A table word placed where the next step takes its instruction runs there (notes/assumptions/2.md, 3.md): a host request
word as the next CMD write, a wire command as the frame on the bus, DC at Low. -/
def Obligations.PlacedWordRuns : Prop :=
  ∀ (s : State) (w : Nat) (i : Instr),
    (decodeTableWord 32 w = some i → step (s.withFetchWord 32 w) = exec i s) ∧
    (decodeTableWord 16 w = some i → ∃ p, step (s.withFetchWord 16 w) = mapNext State.nextItem (exec i p) ∧
      p.dc = .low ∧ p.trace = .pinWrite .dc .low :: s.trace ∧ p.inputs = s.inputs ∧ p.params = s.params ∧
      p.memory = s.memory ∧ p.panel = s.panel)

/-! ### Framing primitives -/

/-- SendCommand(b) emits exactly PinWrite(DC, Low) and Spi(b), one a step, and changes no register
(43_protocol_primitives.md R201). -/
def Obligations.SendCommandFramesOneByte : Prop :=
  ∀ (s : State) (b : Byte), s.inputs = [] → s.status.active = true → (program s)[s.seq.item]? = some (.cmd b) →
    s.seq.beat = .start →
    ∃ t u, step s = .next t ∧
      t = { s with
        seq := { s.seq with beat := .framed }, dc := .low, trace := .pinWrite .dc .low :: s.trace } ∧
      step t = .next u ∧
      u = { s with
        seq := { s.seq with item := s.seq.item + 1, b := 0, j := 0, k := 0, n := 0 }
        dc := .low, trace := .spi b :: .pinWrite .dc .low :: s.trace, panel := u.panel }

/-- SendData(b) emits exactly PinWrite(DC, High) and Spi(b), one a step, and changes no register
(43_protocol_primitives.md R202). -/
def Obligations.SendDataFramesOneByte : Prop :=
  ∀ (s : State) (b : Byte), s.inputs = [] → s.status.active = true → (program s)[s.seq.item]? = some (.data b) →
    s.seq.beat = .start →
    ∃ t u, step s = .next t ∧
      t = { s with
        seq := { s.seq with beat := .framed }, dc := .high, trace := .pinWrite .dc .high :: s.trace } ∧
      step t = .next u ∧
      u = { s with
        seq := { s.seq with item := s.seq.item + 1, b := 0, j := 0, k := 0, n := 0 }
        dc := .high, trace := .spi b :: .pinWrite .dc .high :: s.trace, panel := u.panel }

/-- The meaning of every wire command sends its code, and changes nothing in the engine. The codes are those of
45_panel_command_set.md R280-R299. A wire command is the DC write and the byte (30_encoding.md R119); that exec is the byte
alone, with the DC write the step before, is the model's choice (notes/assumptions/3.md). -/
def Obligations.WireCommandSendsItsCode : Prop :=
  ∀ (s : State) (i : Instr) (code : Byte), (i, code) ∈ Expect.wireCodes →
    ∃ t, exec i s = .next t ∧ t = { s with trace := .spi code :: s.trace, panel := t.panel }

/-! ### Register window -/

/-- STATUS bit by bit (10_state.md R37-R44). -/
def Obligations.StatusWordLayout : Prop :=
  ∀ t : Status,
    t.word.getLsbD 0 = t.active ∧ t.word.getLsbD 1 = t.busyWait ∧
    (t.word.extractLsb' 2 2).toNat = (match t.pstate with | .unconfigured => 0 | .ready => 1 | .deepSleep => 3) ∧
    t.word.getLsbD 4 = t.tsetupOk ∧
    (t.word.extractLsb' 5 3).toNat =
      (match t.orient with | none => 0 | some .left => 1 | some .right => 2 | some .up => 3 | some .down => 4) ∧
    (t.word.extractLsb' 8 4).toNat =
      (match t.result with
        | .ok => 0 | .errSetup => 1 | .errOrient => 2 | .errNoSetup => 3 | .errSleep => 4 | .errTimeout => 5
        | .errOp => 6 | .errRange => 7 | .errVariant => 8 | .pending => 15) ∧
    t.word.getLsbD 12 = t.ovr ∧ (t.word.extractLsb' 13 19).toNat = 0

/-- A host read of an aligned word returns the register and has no effect on the engine: CMD and the reserved offsets read 0,
WAIT_LIMIT reads its limit in bits 15:0 (10_state.md R35, R36, R46, R48, 20_memory.md R91). -/
def Obligations.RegisterReadReturnsTheRegister : Prop :=
  ∀ (s : State) (offset : Nat) (rest : List HostAction), s.inputs = .read offset 32 :: rest → offset % 4 = 0 →
    offset < 32 →
    ∃ v, step s = .next { s with inputs := rest, hostRead := v } ∧
      (offset = 0x04 → v = s.status.word) ∧ (offset = 0x08 → v = s.fbBase) ∧
      (offset = 0x0C → v.toNat = s.waitLimit.toNat) ∧ (offset = 0x10 → v = s.polls) ∧
      (offset = 0x00 ∨ 0x14 ≤ offset → v = 0)

/-- A STATUS write changes nothing but OVR, which a 1 in bit 12 clears; bits 31:13 read 0; also while an operation is active
(10_state.md R43, R44). -/
def Obligations.StatusWriteClearsOnlyOverrun : Prop :=
  ∀ (s : State) (v : Word) (rest : List HostAction), s.inputs = .write 0x04 32 v :: rest →
    step s = .next { s with
      inputs := rest, status := { s.status with ovr := s.status.ovr && !v.getLsbD 12 } } ∧
    s.status.word.toNat / 2 ^ 13 = 0

/-- Writes to FB_BASE and WAIT_LIMIT change the register and not the running operation, which keeps its latched FBL and WLL;
WAIT_LIMIT keeps bits 15:0 (10_state.md R45, R46, 70_reset_and_hazards.md R374). -/
def Obligations.OperandRegisterWrites : Prop :=
  ∀ (s : State) (v : Word) (rest : List HostAction),
    (s.inputs = .write 0x08 32 v :: rest → step s = .next { s with inputs := rest, fbBase := v }) ∧
    (s.inputs = .write 0x0C 32 v :: rest →
      ∃ t, step s = .next t ∧ t = { s with inputs := rest, waitLimit := t.waitLimit } ∧
        t.waitLimit.toNat = v.toNat % 2 ^ 16)

/-- Writes to the reserved offsets are ignored (10_state.md R48); so is a write to the read-only POLLS, by the model's
choice (notes/assumptions/18.md). -/
def Obligations.ReservedOffsetWritesIgnored : Prop :=
  ∀ (s : State) (offset : Nat) (v : Word) (rest : List HostAction), s.inputs = .write offset 32 v :: rest →
    (offset = 0x10 ∨ offset = 0x14 ∨ offset = 0x18 ∨ offset = 0x1C) → step s = .next { s with inputs := rest }

/-- An access that is not 32 bits wide, or not aligned to 4 bytes, is refused and given no meaning (20_memory.md R82). -/
def Obligations.AccessOutsideTheInterfaceRefused : Prop :=
  ∀ (s : State) (offset width : Nat) (v : Word) (rest : List HostAction), width ≠ 32 ∨ offset % 4 ≠ 0 →
    (s.inputs = .write offset width v :: rest → step s = .refused (.registerAccess offset width)) ∧
    (s.inputs = .read offset width :: rest → step s = .refused (.registerAccess offset width))

/-- Engine reset, at any step, sets every host-visible register to 0, aborts the operation, emits no event and leaves the
parameters (70_reset_and_hazards.md R360-R362). That the pins, host memory, the queues of answers, the count of free values and
hostRead stay is the model's reading (notes/assumptions/19.md). -/
def Obligations.EngineResetZeroesTheRegisters : Prop :=
  ∀ (s : State) (rest : List HostAction), s.inputs = .engineReset :: rest →
    ∃ t, step s = .next t ∧ t.status.word = 0 ∧ t.status.active = false ∧ t.fbBase = 0 ∧ t.waitLimit = 0 ∧
      t.polls = 0 ∧
      t = { s with
        inputs := rest, status := t.status, fbBase := t.fbBase, waitLimit := t.waitLimit, polls := t.polls
        seq := t.seq, raced := t.raced, panel := t.panel }

/-! ### Request-time checks -/

/-- A CMD write while an operation is active is dropped, whatever the word: it sets OVR and changes nothing else
(60_exceptions.md R326). -/
def Obligations.OverrunDropsTheRequest : Prop :=
  ∀ (s : State) (w : Word) (rest : List HostAction), s.inputs = .write 0 32 w :: rest → s.status.active = true →
    step s = .next { s with inputs := rest, status := { s.status with ovr := true } }

/-- INIT with an operand other than 1..4 is rejected with ERR_ORIENT, whatever the state, and nothing else changes
(30_encoding.md R113, 60_exceptions.md R323). -/
def Obligations.InvalidOrientationRejected : Prop :=
  ∀ (s : State) (arg : Byte), s.status.active = false → arg.toNat = 0 ∨ 5 ≤ arg.toNat →
    exec (.init arg) s = .next { s with status := { s.status with result := .errOrient } }

/-- While TSETUP_OK = 0 every request other than INIT is rejected with ERR_NOSETUP, before any other check
(60_exceptions.md R323, R324). -/
def Obligations.NoSetupRejected : Prop :=
  ∀ (s : State) (i : Instr), needsSetup i → s.status.active = false → s.status.tsetupOk = false →
    exec i s = .next { s with status := { s.status with result := .errNoSetup } }

/-- In DEEP_SLEEP the operations that write a byte to the bus are rejected with ERR_SLEEP, before the variant and range
checks; INIT with a valid orientation, RESET and WAIT_IDLE are accepted (60_exceptions.md R323, R325). -/
def Obligations.DeepSleepGating : Prop :=
  ∀ s : State, s.status.active = false → s.status.tsetupOk = true → s.status.pstate = .deepSleep →
    (∀ i, writesBus i → exec i s = .next { s with status := { s.status with result := .errSleep } }) ∧
    (∃ t, exec .reset s = .next t ∧ Accepted .reset 0 s t) ∧
    (∃ t, exec .waitIdle s = .next t ∧ Accepted .waitIdle 0 s t) ∧
    (∀ arg : Byte, 1 ≤ arg.toNat → arg.toNat ≤ 4 → ∃ t, exec (.init arg) s = .next t ∧ Accepted .init arg s t)

/-- FRAME_H under an orientation other than Left and Right, and FRAME_V under one other than Up and Down, is rejected with
ERR_VARIANT, before the range check (44_protocol_operations.md R240, 60_exceptions.md R323). -/
def Obligations.WrongVariantRejected : Prop :=
  ∀ s : State, s.status.active = false → s.status.tsetupOk = true → s.status.pstate ≠ .deepSleep →
    (s.status.orient ≠ some .left → s.status.orient ≠ some .right →
      exec .frameH s = .next { s with status := { s.status with result := .errVariant } }) ∧
    (s.status.orient ≠ some .up → s.status.orient ≠ some .down →
      exec .frameV s = .next { s with status := { s.status with result := .errVariant } })

/-- A FRAME request whose buffer would pass 2^32 - 1 is rejected with ERR_RANGE; one that ends exactly there is accepted
(20_memory.md R96, 60_exceptions.md R323). -/
def Obligations.RangeCheckIsExact : Prop :=
  ∀ (s : State), s.status.active = false → s.status.tsetupOk = true → s.status.pstate ≠ .deepSleep →
    s.params.specGeometry →
    (s.status.orient = some .left ∨ s.status.orient = some .right →
      (2 ^ 32 - 53856 < s.fbBase.toNat →
        exec .frameH s = .next { s with status := { s.status with result := .errRange } }) ∧
      (s.fbBase.toNat ≤ 2 ^ 32 - 53856 → ∃ t, exec .frameH s = .next t ∧ Accepted .frameH 0 s t)) ∧
    (s.status.orient = some .up ∨ s.status.orient = some .down →
      (2 ^ 32 - 53856 < s.fbBase.toNat →
        exec .frameV s = .next { s with status := { s.status with result := .errRange } }) ∧
      (s.fbBase.toNat ≤ 2 ^ 32 - 53856 → ∃ t, exec .frameV s = .next t ∧ Accepted .frameV 0 s t))

/-! ### WaitUntilIdle -/

/-- The first N reads of BUSY return Low and the next High, with WLL = 0 or WLL at least N: the wait emits N+1 reads and N
delays in alternation and returns with POLLS = N and BUSYWAIT = 0 (43_protocol_primitives.md R205, R206). POLLS saturates
(10_state.md R47). -/
def Obligations.WaitPollsUntilIdle : Prop :=
  ∀ (s : State) (n : Nat) (rest : List Level), s.inputs = [] → s.status.active = true →
    (program s)[s.seq.item]? = some .wait → s.seq.beat = .start →
    s.busyAnswers = Expect.lowsThenHigh n ++ rest → s.seq.wll = 0 ∨ n ≤ s.seq.wll.toNat →
    ∃ u, run (2 * n + 1) s = .next u ∧
      u = { s with
        status := { s.status with busyWait := false }
        polls := BitVec.ofNat 32 (min n (2 ^ 32 - 1))
        seq := { s.seq with item := s.seq.item + 1, b := 0, j := 0, k := 0, n := 0, w := n }
        busyAnswers := rest, trace := (Expect.wait n).reverse ++ s.trace }

/-- WLL = T > 0 and the first T+1 reads of BUSY return Low: T+1 reads and T delays, then ERR_TIMEOUT ends the operation, with
PSTATE, ORIENT and TSETUP_OK unchanged, POLLS = T and BUSYWAIT = 0 (43_protocol_primitives.md R207, 60_exceptions.md
R322). -/
def Obligations.WaitTimesOut : Prop :=
  ∀ (s : State) (rest : List Level), s.inputs = [] → s.status.active = true →
    (program s)[s.seq.item]? = some .wait → s.seq.beat = .start → s.seq.wll ≠ 0 →
    s.busyAnswers = List.replicate (s.seq.wll.toNat + 1) .low ++ rest →
    ∃ u, run (2 * s.seq.wll.toNat + 1) s = .next u ∧
      u = { s with
        status := s.status.ended .errTimeout s.status.pstate
        polls := s.seq.wll.setWidth 32, seq := u.seq
        busyAnswers := rest, panel := u.panel
        trace := .pinRead .low :: (Expect.lowPolls s.seq.wll.toNat).reverse ++ s.trace }

/-! ### Operations, from the request to the end -/

/-- SEND_CMD(b): accepted, then two events and the end, with RESULT OK; PSTATE and every other register as before, whatever b
is (43_protocol_primitives.md R211, 44_protocol_operations.md R230). -/
def Obligations.SendCmdRuns : Prop :=
  ∀ (s : State) (b : Byte), Idle s → s.status.tsetupOk = true → s.status.pstate ≠ .deepSleep →
    ∃ t u, exec (.sendCmd b) s = .next t ∧ Accepted .sendCmd b s t ∧ run 3 t = .next u ∧
      u = { s with
        status := s.status.ended .ok s.status.pstate, seq := u.seq, raced := [], dc := .low, panel := u.panel
        trace := (Expect.c b).reverse ++ s.trace }

/-- SEND_DATA(b): accepted, then two events and the end, with RESULT OK and nothing else written
(43_protocol_primitives.md R212). -/
def Obligations.SendDataRuns : Prop :=
  ∀ (s : State) (b : Byte), Idle s → s.status.tsetupOk = true → s.status.pstate ≠ .deepSleep →
    ∃ t u, exec (.sendData b) s = .next t ∧ Accepted .sendData b s t ∧ run 3 t = .next u ∧
      u = { s with
        status := s.status.ended .ok s.status.pstate, seq := u.seq, raced := [], dc := .high, panel := u.panel
        trace := (Expect.d b).reverse ++ s.trace }

/-- WAIT_IDLE with BUSY answers Low N times, then High, within the limit: N+1 reads, N delays, RESULT OK, POLLS = N, PSTATE
unchanged; in every PSTATE (43_protocol_primitives.md R213). -/
def Obligations.WaitIdleRuns : Prop :=
  ∀ (s : State) (n : Nat) (rest : List Level), Idle s → s.status.tsetupOk = true →
    s.busyAnswers = Expect.lowsThenHigh n ++ rest → s.waitLimit = 0 ∨ n ≤ s.waitLimit.toNat →
    ∃ t u, exec .waitIdle s = .next t ∧ Accepted .waitIdle 0 s t ∧ run (2 * n + 2) t = .next u ∧
      u = { s with
        status := s.status.ended .ok s.status.pstate, seq := u.seq, raced := []
        polls := BitVec.ofNat 32 (min n (2 ^ 32 - 1)), busyAnswers := rest
        trace := (Expect.wait n).reverse ++ s.trace }

/-- RESET: the reset pulse and a wait, then RESULT OK and PSTATE UNCONFIGURED; ORIENT and TSETUP_OK unchanged; in every PSTATE
(43_protocol_primitives.md R209, 44_protocol_operations.md R236). -/
def Obligations.ResetRuns : Prop :=
  ∀ (s : State) (n : Nat) (rest : List Level), Idle s → s.status.tsetupOk = true →
    s.busyAnswers = Expect.lowsThenHigh n ++ rest → s.waitLimit = 0 ∨ n ≤ s.waitLimit.toNat →
    ∃ t u, exec .reset s = .next t ∧ Accepted .reset 0 s t ∧ run (2 * n + 6) t = .next u ∧
      u = { s with
        status := s.status.ended .ok .unconfigured, seq := u.seq, raced := [], rst := .high, panel := u.panel
        polls := BitVec.ofNat 32 (min n (2 ^ 32 - 1)), busyAnswers := rest
        trace := (Expect.pulse ++ Expect.wait n).reverse ++ s.trace }

/-- INIT(o) with Setup ok and the reset's wait within its limit: Setup, the reset pulse, the wait, the INIT_ROM frames with the
PSR pair of o, then READY, TSETUP_OK = 1, ORIENT = o and RESULT OK; from every idle state whose parameters are well-formed, and
in 1 + 4 + (2N + 1) + 2*len(INIT_ROM) events (44_protocol_operations.md R231-R233, R235). Well-formed parameters have the
spec's decided geometry and an INIT_ROM with the groups of R55 in the order of R56 (notes/assumptions/10.md, 11.md). -/
def Obligations.InitRuns : Prop :=
  ∀ (s : State) (arg : Byte) (o : Orientation) (n : Nat) (answers : List Bool) (rest : List Level), Idle s →
    orientationOf arg = some o → s.params.WellFormed → s.setupAnswers = true :: answers →
    s.busyAnswers = Expect.lowsThenHigh n ++ rest → s.waitLimit = 0 ∨ n ≤ s.waitLimit.toNat →
    ∃ t u, exec (.init arg) s = .next t ∧ Accepted .init arg s t ∧
      run (1 + 4 + (2 * n + 1) + 2 * s.params.initRom.length + 1) t = .next u ∧
      u = { s with
        status := { s.status.ended .ok .ready with tsetupOk := true, orient := some o }
        seq := u.seq, raced := [], rst := .high, dc := u.dc, panel := u.panel
        polls := BitVec.ofNat 32 (min n (2 ^ 32 - 1)), busyAnswers := rest, setupAnswers := answers
        trace := (Event.setup true :: Expect.pulse ++ Expect.wait n ++ Expect.rom s.params o).reverse ++ s.trace }

/-- INIT whose Setup answers fail: one event, TSETUP_OK = 0, PSTATE UNCONFIGURED, RESULT ERR_SETUP, ORIENT unchanged
(44_protocol_operations.md R234). -/
def Obligations.InitSetupFailure : Prop :=
  ∀ (s : State) (arg : Byte) (answers : List Bool), Idle s → orientationOf arg ≠ none →
    s.setupAnswers = false :: answers →
    ∃ t u, exec (.init arg) s = .next t ∧ Accepted .init arg s t ∧ run 1 t = .next u ∧
      u = { s with
        status := { s.status.ended .errSetup .unconfigured with tsetupOk := false }
        seq := u.seq, raced := [], setupAnswers := answers, trace := .setup false :: s.trace }

/-- CLEAR: master, then slave, each selected, opened with DTM and filled with 27200 bytes 0x55, under every orientation, with
no wait; 108812 events, RESULT OK (44_protocol_operations.md R237, R243, 95_test_vectors.md E5). -/
def Obligations.ClearRuns : Prop :=
  ∀ s : State, Idle s → s.status.tsetupOk = true → s.status.pstate ≠ .deepSleep →
    ∃ t u, exec .clear s = .next t ∧ Accepted .clear 0 s t ∧ run 108813 t = .next u ∧
      u = { s with
        status := s.status.ended .ok s.status.pstate, seq := u.seq, raced := [], dc := .high, panel := u.panel
        trace := Expect.clear.reverse ++ s.trace }

/-- FRAME_H under Left or Right: half A, then half B, each selected, opened with DTM and streamed from the column split, every
byte read and sent through the codec; 163212 events, RESULT OK (44_protocol_operations.md R238, R243,
42_frame_partitioner.md R172, R173, R176, R177). -/
def Obligations.FrameHRuns : Prop :=
  ∀ (s : State) (o : Orientation), Idle s → s.status.tsetupOk = true → s.status.pstate ≠ .deepSleep →
    s.status.orient = some o → o = .left ∨ o = .right → s.params.specGeometry →
    s.fbBase.toNat + 53855 < 2 ^ 32 →
    ∃ t u, exec .frameH s = .next t ∧ Accepted .frameH 0 s t ∧ run 163213 t = .next u ∧
      u = { s with
        status := s.status.ended .ok s.status.pstate, seq := u.seq, raced := [], dc := .high, panel := u.panel
        trace := (Expect.frame (if o = .left then 0x06 else 0x05) (if o = .left then 0x05 else 0x06)
          (fun b j => b * 198 + j) (fun b j => b * 198 + 98 + j) s.fbBase.toNat s.memory).reverse ++ s.trace }

/-- FRAME_V under Up or Down: as FRAME_H, from the row split; half A goes to VSEL_UP_A under Up and to the other controller
under Down (44_protocol_operations.md R239, R243, 42_frame_partitioner.md R174, R178, R179). -/
def Obligations.FrameVRuns : Prop :=
  ∀ (s : State) (o : Orientation), Idle s → s.status.tsetupOk = true → s.status.pstate ≠ .deepSleep →
    s.status.orient = some o → o = .up ∨ o = .down → s.params.specGeometry →
    s.fbBase.toNat + 53855 < 2 ^ 32 →
    ∃ t u, exec .frameV s = .next t ∧ Accepted .frameV 0 s t ∧ run 163213 t = .next u ∧
      u = { s with
        status := s.status.ended .ok s.status.pstate, seq := u.seq, raced := [], dc := .high, panel := u.panel
        trace := (Expect.frame
          (if (o = .up ↔ s.params.vselUpA = .slave) then 0x06 else 0x05)
          (if (o = .up ↔ s.params.vselUpA = .slave) then 0x05 else 0x06)
          (fun b j => j * 272 + b) (fun b j => (98 + j) * 272 + b) s.fbBase.toNat s.memory).reverse ++ s.trace }

/-- DISPLAY_SLEEP with its waits within the limit: both controllers selected, PON, DRF 0x00, POF 0x00, a wait after each, DSLP
0xA5 only after the third, the 200 ms tail, then DEEP_SLEEP; POLLS is the last wait's count; 22 + 2(N1 + N2 + N3) events
(44_protocol_operations.md R241-R243). -/
def Obligations.DisplaySleepRuns : Prop :=
  ∀ (s : State) (n1 n2 n3 : Nat) (rest : List Level), Idle s → s.status.tsetupOk = true →
    s.status.pstate ≠ .deepSleep →
    s.busyAnswers = Expect.lowsThenHigh n1 ++ Expect.lowsThenHigh n2 ++ Expect.lowsThenHigh n3 ++ rest →
    s.waitLimit = 0 ∨ (n1 ≤ s.waitLimit.toNat ∧ n2 ≤ s.waitLimit.toNat ∧ n3 ≤ s.waitLimit.toNat) →
    ∃ t u, exec .displaySleep s = .next t ∧ Accepted .displaySleep 0 s t ∧
      run (22 + 2 * (n1 + n2 + n3) + 1) t = .next u ∧
      u = { s with
        status := s.status.ended .ok .deepSleep, seq := u.seq, raced := [], dc := .high, panel := u.panel
        polls := BitVec.ofNat 32 (min n3 (2 ^ 32 - 1)), busyAnswers := rest
        trace := (Expect.displaySleep n1 n2 n3).reverse ++ s.trace }

/-- DISPLAY_SLEEP whose wait after PON times out: PSTATE stays, no DSLP is sent, RESULT is ERR_TIMEOUT
(44_protocol_operations.md R241, 43_protocol_primitives.md R207, 95_test_vectors.md 2.4). -/
def Obligations.DisplaySleepTimesOut : Prop :=
  ∀ (s : State) (rest : List Level), Idle s → s.status.tsetupOk = true → s.status.pstate ≠ .deepSleep →
    s.waitLimit ≠ 0 → s.busyAnswers = List.replicate (s.waitLimit.toNat + 1) .low ++ rest →
    ∃ t u, exec .displaySleep s = .next t ∧ Accepted .displaySleep 0 s t ∧
      run (6 + 2 * s.waitLimit.toNat + 1) t = .next u ∧
      u = { s with
        status := s.status.ended .errTimeout s.status.pstate, seq := u.seq, raced := [], dc := .low
        panel := u.panel, polls := s.waitLimit.setWidth 32, busyAnswers := rest
        trace := .pinRead .low ::
          (Expect.select 0x04 ++ Expect.c 0x04 ++ Expect.lowPolls s.waitLimit.toNat).reverse ++ s.trace }

/-! ### Color codec and partitioner -/

/-- encode(x) = (x + 1) mod 4, with the quoted table as its values (41_color_codec.md R150, R151). -/
def Obligations.EncodeIsTheLaneTable : Prop :=
  (∀ x : BitVec 2, (encodeLane x).toNat = (x.toNat + 1) % 4) ∧
  encodeLane 0b00 = 0b01 ∧ encodeLane 0b01 = 0b10 ∧ encodeLane 0b10 = 0b11 ∧ encodeLane 0b11 = 0b00

/-- Lane i of EncByte's result depends on lane i of the source only, and DecByte inverts EncByte on both sides
(41_color_codec.md R153-R155). -/
def Obligations.EncByteIsLaneWiseBijection : Prop :=
  (∀ (s : Byte) (i : Nat), i < 4 → lane i (encByte s) = encodeLane (lane i s)) ∧
  (∀ s : Byte, decByte (encByte s) = s) ∧ (∀ c : Byte, encByte (decByte c) = c)

/-- The source offsets of both splits (42_frame_partitioner.md R176-R179). -/
def Obligations.SourceOffsets : Prop :=
  ∀ (p : Params) (b j : Nat), p.specGeometry →
    sourceOffset .column p .a b j = b * 198 + j ∧ sourceOffset .column p .b b j = b * 198 + 98 + j ∧
    sourceOffset .row p .a b j = j * 272 + b ∧ sourceOffset .row p .b b j = (98 + j) * 272 + b

/-- The two seam bytes of every block come from the same source offsets in both halves (42_frame_partitioner.md R182,
R183). -/
def Obligations.SeamBytesAgree : Prop :=
  ∀ (p : Params) (b : Nat), p.specGeometry →
    offH p .a b 98 = b * 198 + 98 ∧ offH p .b b 0 = b * 198 + 98 ∧
    offH p .a b 99 = b * 198 + 99 ∧ offH p .b b 1 = b * 198 + 99 ∧
    offV p .a b 98 = 98 * 272 + b ∧ offV p .b b 0 = 98 * 272 + b ∧
    offV p .a b 99 = 99 * 272 + b ∧ offV p .b b 1 = 99 * 272 + b

/-- Under either split the halves together read every offset below FB_LEN and none at or above it, and two different
positions read one offset only at the seam, one in each half (42_frame_partitioner.md R184). -/
def Obligations.PartitionCoversTheBuffer : Prop :=
  ∀ (p : Params) (split : Split), p.specGeometry →
    (∀ off, off < 53856 → ∃ h b j, b < 272 ∧ j < 100 ∧ sourceOffset split p h b j = off) ∧
    (∀ h b j, b < 272 → j < 100 → sourceOffset split p h b j < 53856) ∧
    (∀ h b j h' b' j', b < 272 → j < 100 → b' < 272 → j' < 100 →
      sourceOffset split p h b j = sourceOffset split p h' b' j' → (h, b, j) ≠ (h', b', j') →
      b = b' ∧ ((h = .a ∧ h' = .b ∧ j = j' + 98) ∨ (h = .b ∧ h' = .a ∧ j' = j + 98)))

/-- The select payloads of the two halves (42_frame_partitioner.md R172-R175). -/
def Obligations.HalfSelectors : Prop :=
  ∀ p : Params,
    selector p .left .a = 0x06 ∧ selector p .left .b = 0x05 ∧
    selector p .right .a = 0x05 ∧ selector p .right .b = 0x06 ∧
    (p.vselUpA = .slave →
      selector p .up .a = 0x06 ∧ selector p .up .b = 0x05 ∧ selector p .down .a = 0x05 ∧ selector p .down .b = 0x06) ∧
    (p.vselUpA = .master →
      selector p .up .a = 0x05 ∧ selector p .up .b = 0x06 ∧ selector p .down .a = 0x06 ∧ selector p .down .b = 0x05)

/-! ### Memory -/

/-- A frame-buffer read below 2^32 is one FbRead event, changes no register of the window, and gets the byte host memory
holds, or any byte where the host wrote it during the operation (20_memory.md R84, R90, R92). -/
def Obligations.FrameBufferReadReturnsTheHostByte : Prop :=
  ∀ (s : State) (split : Split) (h : Half) (a : Nat), s.inputs = [] → s.status.active = true →
    (program s)[s.seq.item]? = some (.pixels split h) → s.seq.beat = .start →
    a = s.seq.fbl.toNat + sourceOffset split s.params h s.seq.b s.seq.j → a < 2 ^ 32 →
    ∃ t, step s = .next t ∧
      t = { s with
        trace := .fbRead a :: s.trace, draws := t.draws
        seq := { s.seq with v := t.seq.v, h := h, beat := .fetched } } ∧
      (a ∉ s.raced → t.seq.v = Memory.read s.memory a)

/-- The host's store changes the byte at its address and no other byte, and marks the byte as raced exactly where it lies in
the buffer of a running FRAME op (20_memory.md R92, 70_reset_and_hazards.md R368). -/
def Obligations.HostStoreWritesOneByte : Prop :=
  ∀ (s : State) (a : Word) (v : Byte) (rest : List HostAction), s.inputs = .storeByte a v :: rest →
    Memory.wf s.memory →
    ∃ t, step s = .next t ∧ t = { s with inputs := rest, memory := t.memory, raced := t.raced } ∧
      Memory.read t.memory a.toNat = v ∧ (∀ x, x ≠ a.toNat → Memory.read t.memory x = Memory.read s.memory x) ∧
      (∀ x, x ∈ t.raced ↔ x ∈ s.raced ∨
        (x = a.toNat ∧ s.status.active = true ∧ s.seq.opl.isFrame = true ∧
          s.seq.fbl.toNat ≤ x ∧ x < s.seq.fbl.toNat + s.params.fbLen))

/-- Only a store of the host changes host memory: the engine never writes it (20_memory.md R84, 00_scope.md R14). -/
def Obligations.EngineNeverWritesHostMemory : Prop :=
  ∀ s t : State, step s = .next t → (∀ a v rest, s.inputs ≠ .storeByte a v :: rest) → t.memory = s.memory

/-! ### Whole-machine rules -/

/-- The invariants hold at reset. The register values are the spec's (10_state.md R59, 70_reset_and_hazards.md R361). The event
stream, host memory and the internal registers at reset are the model's choice: an empty stream (notes/assumptions/4.md), no
listed byte (7.md), and no byte held in v (8.md, 14.md). -/
def Obligations.InvariantsHoldAtReset : Prop :=
  Consistent State.reset ∧ Framed State.reset ∧ Memory.wf State.reset.memory

/-- Every step keeps STATUS and the sequencer consistent (10_state.md R37-R42, 60_exceptions.md R323-R325), and lets no copy of
a frame-buffer byte outlast its operation (20_memory.md R84): the register v reads 0 while no operation is active
(notes/assumptions/14.md). -/
def Obligations.StepKeepsConsistent : Prop :=
  ∀ s t : State, Consistent s → step s = .next t → Consistent t

/-- Every step keeps framing exclusive: no byte goes out without the DC write directly before it (43_protocol_primitives.md
R203). -/
def Obligations.StepKeepsFraming : Prop :=
  ∀ s t : State, Framed s → step s = .next t → Framed t

/-- Every step keeps the canonical form of host memory. -/
def Obligations.StepKeepsMemoryForm : Prop :=
  ∀ s t : State, Memory.wf s.memory → step s = .next t → Memory.wf t.memory

/-- In a consistent state with well-formed parameters, an engine step always answers a next state. Well-formed parameters have
the spec's decided geometry and an INIT_ROM with the groups of 10_state.md R55 in the order of R56 (notes/assumptions/10.md,
11.md). The faults it rules out are those of notes/assumptions/20.md. -/
def Obligations.EngineNeverStops : Prop :=
  ∀ s : State, Consistent s → s.params.WellFormed → s.inputs = [] → ∃ t, step s = .next t

/-- A step emits at most one event, and none while no operation is active; the event stream is only ever appended to
(10_state.md R34, 20_memory.md R93, 60_exceptions.md R341). -/
def Obligations.OneEventPerStep : Prop :=
  ∀ s t : State, step s = .next t →
    (t.trace = s.trace ∨ ∃ e, t.trace = e :: s.trace) ∧ (s.status.active = false → t.trace = s.trace)

/-- While no operation is active and the host does nothing, the engine holds every register (60_exceptions.md R341). -/
def Obligations.IdleEngineHolds : Prop :=
  ∀ s : State, Idle s → step s = .next s

/-- No byte goes to the bus while PSTATE is DEEP_SLEEP (60_exceptions.md R325, 70_reset_and_hazards.md R369). -/
def Obligations.NoByteIsSentInDeepSleep : Prop :=
  ∀ (s t : State) (b : Byte), Consistent s → step s = .next t → t.trace = .spi b :: s.trace →
    s.status.pstate ≠ .deepSleep

/-- PSTATE after each event of 10_state.md R49's table, and no other change of it. -/
def Obligations.PstateMovesOnlyAsListed : Prop :=
  ∀ s t : State, step s = .next t →
    (s.inputs.head? = some .engineReset → t.status.pstate = .unconfigured) ∧
    (t.trace = .setup false :: s.trace → t.status.pstate = .unconfigured) ∧
    (t.trace = .pinWrite .rst .low :: s.trace → t.status.pstate = .unconfigured) ∧
    (t.status.active = false → s.status.active = true → s.inputs.head? ≠ some .engineReset →
      t.status.result = .ok → s.seq.opl = .init → t.status.pstate = .ready) ∧
    (t.status.active = false → s.status.active = true → s.inputs.head? ≠ some .engineReset →
      t.status.result = .ok → s.seq.opl = .displaySleep → t.status.pstate = .deepSleep) ∧
    (t.status.pstate ≠ s.status.pstate →
      s.inputs.head? = some .engineReset ∨
      (s.seq.opl = .init ∧ t.trace = .setup false :: s.trace) ∨
      ((s.seq.opl = .init ∨ s.seq.opl = .reset) ∧ t.trace = .pinWrite .rst .low :: s.trace) ∨
      ((s.seq.opl = .init ∨ s.seq.opl = .displaySleep) ∧ s.status.active = true ∧ t.status.active = false ∧
        t.status.result = .ok))

/-- STATUS.ORIENT changes only in the step of an INIT's Setup that answers ok, and at engine reset (10_state.md R41, R57).
TSETUP_OK becomes 1 only in that step, and 0 only in the step of an INIT's Setup that answers fail and at engine reset (R40).
OVR becomes 1 only at a CMD write while an operation is active, and 0 only at a STATUS write with bit 12 = 1 and at engine reset
(R43). BUSYWAIT becomes 1 at a BUSY read that returns Low, unless that read ends the wait by timeout, where it becomes 0, and 0
at one that returns High; in a consistent state it changes at no other event but engine reset (R38, R50). -/
def Obligations.OrientChangesOnlyInSetup : Prop :=
  ∀ s t : State, step s = .next t →
    (t.status.orient ≠ s.status.orient →
      s.inputs.head? = some .engineReset ∨
      (s.status.active = true ∧ s.seq.opl = .init ∧ t.trace = .setup true :: s.trace ∧
        t.status.orient = orientationOf s.seq.argl ∧ t.status.tsetupOk = true)) ∧
    (t.status.tsetupOk ≠ s.status.tsetupOk →
      (t.status.tsetupOk = false ∧ s.inputs.head? = some .engineReset) ∨
      (s.status.active = true ∧ s.seq.opl = .init ∧ t.trace = .setup t.status.tsetupOk :: s.trace)) ∧
    (t.status.ovr ≠ s.status.ovr →
      (t.status.ovr = true ∧ s.status.active = true ∧ ∃ w, s.inputs.head? = some (.write 0x00 32 w)) ∨
      (t.status.ovr = false ∧ s.inputs.head? = some .engineReset) ∨
      (t.status.ovr = false ∧ ∃ v : Word, s.inputs.head? = some (.write 0x04 32 v) ∧ v.getLsbD 12 = true)) ∧
    (t.trace = .pinRead .low :: s.trace →
      (t.status.active = true ∧ t.status.busyWait = true) ∨
      (t.status.active = false ∧ t.status.result = .errTimeout ∧ t.status.busyWait = false)) ∧
    (t.trace = .pinRead .high :: s.trace → t.status.busyWait = false) ∧
    (Consistent s → t.status.busyWait ≠ s.status.busyWait →
      (t.status.busyWait = false ∧ s.inputs.head? = some .engineReset) ∨
      (s.status.active = true ∧ (program s)[s.seq.item]? = some .wait ∧ ∃ lvl, t.trace = .pinRead lvl :: s.trace))

/-- The internal registers are not read while no operation is active: two idle states that differ in them only give runs that
differ in them only, over any number of steps and any actions of the host (10_state.md R32). The register v of
notes/assumptions/14.md is among them. -/
def Obligations.InternalRegistersDoNotLeak : Prop :=
  ∀ (s t : State) (n : Nat), s.status.active = false → sameButInternals s t → agreeButInternals (run n s) (run n t)

/-! ### The panel under the reference reading, and the assembler -/

/-- Under the reference reading a selector payload after MS_CTRL selects, DTM sets the selected controllers' pointers to 0, and
data byte k goes to byte k of each selected controller; the other controller stays as it was (20_memory.md R104). The reading
holds in every PSTATE; that it is kept while no controller may sleep and the last INIT did not time out is the model's choice
(notes/assumptions/15.md). -/
def Obligations.SelectedControllerTakesTheStream : Prop :=
  ∀ (s : State) (payload : Byte) (data : List Byte) (t u w x : State), s.panelListens = true →
    data.length ≤ 27200 → payload = 0x04 ∨ payload = 0x05 ∨ payload = 0x06 →
    exec .msCtrl s = .next t → dataFrame payload t = u → exec .dtm u = .next w →
    data.foldl (fun z b => dataFrame b z) w = x →
    ((payload = 0x04 ∨ payload = 0x05) → x.panel.master.ptr = data.length ∧
      ∀ k, k < data.length → Cells.find x.panel.master.mem k = data[k]?) ∧
    ((payload = 0x04 ∨ payload = 0x06) → x.panel.slave.ptr = data.length ∧
      ∀ k, k < data.length → Cells.find x.panel.slave.mem k = data[k]?) ∧
    (payload = 0x05 → x.panel.slave = s.panel.slave) ∧ (payload = 0x06 → x.panel.master = s.panel.master)

/-- What the record of the panel keeps of PON, POF and DSLP (60_exceptions.md R340, 70_reset_and_hazards.md R373), on the selected
controllers only (20_memory.md R104 (a)): power as the last PON or POF set it, and that a controller may sleep. A byte that
reaches a panel that does not listen, DSLP's own data byte apart, leaves nothing known. All of it is the model's choice
(notes/assumptions/15.md). -/
def Obligations.PanelPowerFollowsTheCommands : Prop :=
  ∀ s : State,
    (s.panelListens = true → ∀ i v, (i = .pon ∧ v = .on) ∨ (i = .pof ∧ v = .off) →
      ∃ t, exec i s = .next t ∧
        t.panel.master = (match s.panel.select with
          | .both | .master => { s.panel.master with power := v }
          | .slave => s.panel.master
          | .unknown => { s.panel.master with power := .unknown }) ∧
        t.panel.slave = (match s.panel.select with
          | .both | .slave => { s.panel.slave with power := v }
          | .master => s.panel.slave
          | .unknown => { s.panel.slave with power := .unknown })) ∧
    (∃ t, exec .dslp s = .next t ∧ t.panelListens = false ∧
      (s.panelListens = true → s.panel.select = .master → t.panel.slave = s.panel.slave) ∧
      (s.panelListens = true → s.panel.select = .slave → t.panel.master = s.panel.master) ∧
      (s.panelListens = true → (dataFrame 0xA5 t).panel.master = t.panel.master ∧
        (dataFrame 0xA5 t).panel.slave = t.panel.slave ∧ ∀ b, (dataFrame b (dataFrame 0xA5 t)).panel = t.panel.forget)) ∧
    (s.panelListens = false → ∀ i code, (i, code) ∈ Expect.wireCodes → i ≠ .dslp →
      ∃ t, exec i s = .next t ∧ t.panel = s.panel.forget)

/-- An operation's mnemonic is a write of its HRW to CMD and a `sync`; each round of `sync` reads STATUS, and goes round again,
after a turn of the engine, while ACTIVE reads 1 (30_encoding.md R125). That `init` with an operand outside 1..4 assembles to
its HRW too, and that the engine takes one step between two reads, is the model's choice (notes/assumptions/22.md). -/
def Obligations.SyncReadsStatusUntilIdle : Prop :=
  (∀ i w, encode i = .hrw w → assemble (.op i) = [.write 0x00 32 w, .sync]) ∧
  (∀ (s : State) (rest : List HostAction), s.inputs = .sync :: rest →
    (s.status.active = false → step s = .next { s with inputs := rest, hostRead := s.status.word }) ∧
    (s.status.active = true →
      step s = .next { s with inputs := .tick :: .sync :: rest, hostRead := s.status.word }))

/-- The operator's commands expand to statements, and `read` is refused by name (30_encoding.md R127-R132). -/
def Obligations.OperatorCommandsExpand : Prop :=
  (∀ (c : Byte) (data : List Byte),
    expand (.write c data) = .ok (.op (.sendCmd c) :: data.map (fun d => .op (.sendData d)))) ∧
  (∀ d : Byte, 1 ≤ d.toNat → d.toNat ≤ 4 → expand (.init d) = .ok [.op (.init d)]) ∧
  expand .clear = .ok [.op .clear] ∧ expand .display = .ok [.op .displaySleep] ∧ expand .reset = .ok [.op .reset] ∧
  expand .status = .ok [.rd 0x04] ∧ expand .help = .ok [] ∧ expand .exit = .ok [] ∧
  (∀ r : Byte, expand (.read r) = .error .readUnsupported)
end

