-- ==== Sys2Proof/Laws/State.lean ====
section
/-! SUPPORT. Laws/State.lean: what each update of the state does to each field, so that no later proof unfolds a record
update. -/

namespace Sys2Proof.Machine

/-! `State.emit` -/

@[simp] theorem State.emit_status (e : Event) (s : State) : (s.emit e).status = s.status := rfl

@[simp] theorem State.emit_fbBase (e : Event) (s : State) : (s.emit e).fbBase = s.fbBase := rfl

@[simp] theorem State.emit_waitLimit (e : Event) (s : State) : (s.emit e).waitLimit = s.waitLimit := rfl

@[simp] theorem State.emit_polls (e : Event) (s : State) : (s.emit e).polls = s.polls := rfl

@[simp] theorem State.emit_seq (e : Event) (s : State) : (s.emit e).seq = s.seq := rfl

@[simp] theorem State.emit_params (e : Event) (s : State) : (s.emit e).params = s.params := rfl

@[simp] theorem State.emit_memory (e : Event) (s : State) : (s.emit e).memory = s.memory := rfl

@[simp] theorem State.emit_raced (e : Event) (s : State) : (s.emit e).raced = s.raced := rfl

@[simp] theorem State.emit_rst (e : Event) (s : State) : (s.emit e).rst = s.rst := rfl

@[simp] theorem State.emit_dc (e : Event) (s : State) : (s.emit e).dc = s.dc := rfl

@[simp] theorem State.emit_trace (e : Event) (s : State) : (s.emit e).trace = e :: s.trace := rfl

@[simp] theorem State.emit_panel (e : Event) (s : State) : (s.emit e).panel = s.panel := rfl

@[simp] theorem State.emit_inputs (e : Event) (s : State) : (s.emit e).inputs = s.inputs := rfl

@[simp] theorem State.emit_busyAnswers (e : Event) (s : State) : (s.emit e).busyAnswers = s.busyAnswers := rfl

@[simp] theorem State.emit_setupAnswers (e : Event) (s : State) : (s.emit e).setupAnswers = s.setupAnswers := rfl

@[simp] theorem State.emit_draws (e : Event) (s : State) : (s.emit e).draws = s.draws := rfl

@[simp] theorem State.emit_hostRead (e : Event) (s : State) : (s.emit e).hostRead = s.hostRead := rfl

/-! `State.writeDc` -/

@[simp] theorem State.writeDc_status (l : Level) (s : State) : (s.writeDc l).status = s.status := rfl

@[simp] theorem State.writeDc_fbBase (l : Level) (s : State) : (s.writeDc l).fbBase = s.fbBase := rfl

@[simp] theorem State.writeDc_waitLimit (l : Level) (s : State) : (s.writeDc l).waitLimit = s.waitLimit := rfl

@[simp] theorem State.writeDc_polls (l : Level) (s : State) : (s.writeDc l).polls = s.polls := rfl

@[simp] theorem State.writeDc_seq (l : Level) (s : State) : (s.writeDc l).seq = s.seq := rfl

@[simp] theorem State.writeDc_params (l : Level) (s : State) : (s.writeDc l).params = s.params := rfl

@[simp] theorem State.writeDc_memory (l : Level) (s : State) : (s.writeDc l).memory = s.memory := rfl

@[simp] theorem State.writeDc_raced (l : Level) (s : State) : (s.writeDc l).raced = s.raced := rfl

@[simp] theorem State.writeDc_rst (l : Level) (s : State) : (s.writeDc l).rst = s.rst := rfl

@[simp] theorem State.writeDc_dc (l : Level) (s : State) : (s.writeDc l).dc = l := rfl

@[simp] theorem State.writeDc_trace (l : Level) (s : State) : (s.writeDc l).trace = .pinWrite .dc l :: s.trace := rfl

@[simp] theorem State.writeDc_panel (l : Level) (s : State) : (s.writeDc l).panel = s.panel := rfl

@[simp] theorem State.writeDc_inputs (l : Level) (s : State) : (s.writeDc l).inputs = s.inputs := rfl

@[simp] theorem State.writeDc_busyAnswers (l : Level) (s : State) : (s.writeDc l).busyAnswers = s.busyAnswers := rfl

@[simp] theorem State.writeDc_setupAnswers (l : Level) (s : State) :
    (s.writeDc l).setupAnswers = s.setupAnswers := rfl

@[simp] theorem State.writeDc_draws (l : Level) (s : State) : (s.writeDc l).draws = s.draws := rfl

@[simp] theorem State.writeDc_hostRead (l : Level) (s : State) : (s.writeDc l).hostRead = s.hostRead := rfl

/-! `State.writeRst` -/

@[simp] theorem State.writeRst_status (l : Level) (s : State) : (s.writeRst l).status = s.status := rfl

@[simp] theorem State.writeRst_fbBase (l : Level) (s : State) : (s.writeRst l).fbBase = s.fbBase := rfl

@[simp] theorem State.writeRst_waitLimit (l : Level) (s : State) : (s.writeRst l).waitLimit = s.waitLimit := rfl

@[simp] theorem State.writeRst_polls (l : Level) (s : State) : (s.writeRst l).polls = s.polls := rfl

@[simp] theorem State.writeRst_seq (l : Level) (s : State) : (s.writeRst l).seq = s.seq := rfl

@[simp] theorem State.writeRst_params (l : Level) (s : State) : (s.writeRst l).params = s.params := rfl

@[simp] theorem State.writeRst_memory (l : Level) (s : State) : (s.writeRst l).memory = s.memory := rfl

@[simp] theorem State.writeRst_raced (l : Level) (s : State) : (s.writeRst l).raced = s.raced := rfl

@[simp] theorem State.writeRst_rst (l : Level) (s : State) : (s.writeRst l).rst = l := rfl

@[simp] theorem State.writeRst_dc (l : Level) (s : State) : (s.writeRst l).dc = s.dc := rfl

@[simp] theorem State.writeRst_trace (l : Level) (s : State) :
    (s.writeRst l).trace = .pinWrite .rst l :: s.trace := rfl

@[simp] theorem State.writeRst_panel (l : Level) (s : State) : (s.writeRst l).panel = s.panel := rfl

@[simp] theorem State.writeRst_inputs (l : Level) (s : State) : (s.writeRst l).inputs = s.inputs := rfl

@[simp] theorem State.writeRst_busyAnswers (l : Level) (s : State) : (s.writeRst l).busyAnswers = s.busyAnswers := rfl

@[simp] theorem State.writeRst_setupAnswers (l : Level) (s : State) :
    (s.writeRst l).setupAnswers = s.setupAnswers := rfl

@[simp] theorem State.writeRst_draws (l : Level) (s : State) : (s.writeRst l).draws = s.draws := rfl

@[simp] theorem State.writeRst_hostRead (l : Level) (s : State) : (s.writeRst l).hostRead = s.hostRead := rfl

/-! `State.setPState` -/

@[simp] theorem State.setPState_status (p : PState) (s : State) :
    (s.setPState p).status = { s.status with pstate := p } := rfl

@[simp] theorem State.setPState_fbBase (p : PState) (s : State) : (s.setPState p).fbBase = s.fbBase := rfl

@[simp] theorem State.setPState_waitLimit (p : PState) (s : State) : (s.setPState p).waitLimit = s.waitLimit := rfl

@[simp] theorem State.setPState_polls (p : PState) (s : State) : (s.setPState p).polls = s.polls := rfl

@[simp] theorem State.setPState_seq (p : PState) (s : State) : (s.setPState p).seq = s.seq := rfl

@[simp] theorem State.setPState_params (p : PState) (s : State) : (s.setPState p).params = s.params := rfl

@[simp] theorem State.setPState_memory (p : PState) (s : State) : (s.setPState p).memory = s.memory := rfl

@[simp] theorem State.setPState_raced (p : PState) (s : State) : (s.setPState p).raced = s.raced := rfl

@[simp] theorem State.setPState_rst (p : PState) (s : State) : (s.setPState p).rst = s.rst := rfl

@[simp] theorem State.setPState_dc (p : PState) (s : State) : (s.setPState p).dc = s.dc := rfl

@[simp] theorem State.setPState_trace (p : PState) (s : State) : (s.setPState p).trace = s.trace := rfl

@[simp] theorem State.setPState_panel (p : PState) (s : State) : (s.setPState p).panel = s.panel := rfl

@[simp] theorem State.setPState_inputs (p : PState) (s : State) : (s.setPState p).inputs = s.inputs := rfl

@[simp] theorem State.setPState_busyAnswers (p : PState) (s : State) :
    (s.setPState p).busyAnswers = s.busyAnswers := rfl

@[simp] theorem State.setPState_setupAnswers (p : PState) (s : State) :
    (s.setPState p).setupAnswers = s.setupAnswers := rfl

@[simp] theorem State.setPState_draws (p : PState) (s : State) : (s.setPState p).draws = s.draws := rfl

@[simp] theorem State.setPState_hostRead (p : PState) (s : State) : (s.setPState p).hostRead = s.hostRead := rfl

/-! `State.setBusyWait` -/

@[simp] theorem State.setBusyWait_status (v : Bool) (s : State) :
    (s.setBusyWait v).status = { s.status with busyWait := v } := rfl

@[simp] theorem State.setBusyWait_fbBase (v : Bool) (s : State) : (s.setBusyWait v).fbBase = s.fbBase := rfl

@[simp] theorem State.setBusyWait_waitLimit (v : Bool) (s : State) : (s.setBusyWait v).waitLimit = s.waitLimit := rfl

@[simp] theorem State.setBusyWait_polls (v : Bool) (s : State) : (s.setBusyWait v).polls = s.polls := rfl

@[simp] theorem State.setBusyWait_seq (v : Bool) (s : State) : (s.setBusyWait v).seq = s.seq := rfl

@[simp] theorem State.setBusyWait_params (v : Bool) (s : State) : (s.setBusyWait v).params = s.params := rfl

@[simp] theorem State.setBusyWait_memory (v : Bool) (s : State) : (s.setBusyWait v).memory = s.memory := rfl

@[simp] theorem State.setBusyWait_raced (v : Bool) (s : State) : (s.setBusyWait v).raced = s.raced := rfl

@[simp] theorem State.setBusyWait_rst (v : Bool) (s : State) : (s.setBusyWait v).rst = s.rst := rfl

@[simp] theorem State.setBusyWait_dc (v : Bool) (s : State) : (s.setBusyWait v).dc = s.dc := rfl

@[simp] theorem State.setBusyWait_trace (v : Bool) (s : State) : (s.setBusyWait v).trace = s.trace := rfl

@[simp] theorem State.setBusyWait_panel (v : Bool) (s : State) : (s.setBusyWait v).panel = s.panel := rfl

@[simp] theorem State.setBusyWait_inputs (v : Bool) (s : State) : (s.setBusyWait v).inputs = s.inputs := rfl

@[simp] theorem State.setBusyWait_busyAnswers (v : Bool) (s : State) :
    (s.setBusyWait v).busyAnswers = s.busyAnswers := rfl

@[simp] theorem State.setBusyWait_setupAnswers (v : Bool) (s : State) :
    (s.setBusyWait v).setupAnswers = s.setupAnswers := rfl

@[simp] theorem State.setBusyWait_draws (v : Bool) (s : State) : (s.setBusyWait v).draws = s.draws := rfl

@[simp] theorem State.setBusyWait_hostRead (v : Bool) (s : State) : (s.setBusyWait v).hostRead = s.hostRead := rfl

/-! `State.setBeat` -/

@[simp] theorem State.setBeat_status (v : Beat) (s : State) : (s.setBeat v).status = s.status := rfl

@[simp] theorem State.setBeat_fbBase (v : Beat) (s : State) : (s.setBeat v).fbBase = s.fbBase := rfl

@[simp] theorem State.setBeat_waitLimit (v : Beat) (s : State) : (s.setBeat v).waitLimit = s.waitLimit := rfl

@[simp] theorem State.setBeat_polls (v : Beat) (s : State) : (s.setBeat v).polls = s.polls := rfl

@[simp] theorem State.setBeat_seq (v : Beat) (s : State) : (s.setBeat v).seq = { s.seq with beat := v } := rfl

@[simp] theorem State.setBeat_params (v : Beat) (s : State) : (s.setBeat v).params = s.params := rfl

@[simp] theorem State.setBeat_memory (v : Beat) (s : State) : (s.setBeat v).memory = s.memory := rfl

@[simp] theorem State.setBeat_raced (v : Beat) (s : State) : (s.setBeat v).raced = s.raced := rfl

@[simp] theorem State.setBeat_rst (v : Beat) (s : State) : (s.setBeat v).rst = s.rst := rfl

@[simp] theorem State.setBeat_dc (v : Beat) (s : State) : (s.setBeat v).dc = s.dc := rfl

@[simp] theorem State.setBeat_trace (v : Beat) (s : State) : (s.setBeat v).trace = s.trace := rfl

@[simp] theorem State.setBeat_panel (v : Beat) (s : State) : (s.setBeat v).panel = s.panel := rfl

@[simp] theorem State.setBeat_inputs (v : Beat) (s : State) : (s.setBeat v).inputs = s.inputs := rfl

@[simp] theorem State.setBeat_busyAnswers (v : Beat) (s : State) : (s.setBeat v).busyAnswers = s.busyAnswers := rfl

@[simp] theorem State.setBeat_setupAnswers (v : Beat) (s : State) : (s.setBeat v).setupAnswers = s.setupAnswers := rfl

@[simp] theorem State.setBeat_draws (v : Beat) (s : State) : (s.setBeat v).draws = s.draws := rfl

@[simp] theorem State.setBeat_hostRead (v : Beat) (s : State) : (s.setBeat v).hostRead = s.hostRead := rfl

/-! `State.nextItem` -/

@[simp] theorem State.nextItem_status (s : State) : (s.nextItem).status = s.status := rfl

@[simp] theorem State.nextItem_fbBase (s : State) : (s.nextItem).fbBase = s.fbBase := rfl

@[simp] theorem State.nextItem_waitLimit (s : State) : (s.nextItem).waitLimit = s.waitLimit := rfl

@[simp] theorem State.nextItem_polls (s : State) : (s.nextItem).polls = s.polls := rfl

@[simp] theorem State.nextItem_seq (s : State) :
    (s.nextItem).seq = { s.seq with item := s.seq.item + 1, beat := .start, b := 0, j := 0, k := 0, n := 0 } := rfl

@[simp] theorem State.nextItem_params (s : State) : (s.nextItem).params = s.params := rfl

@[simp] theorem State.nextItem_memory (s : State) : (s.nextItem).memory = s.memory := rfl

@[simp] theorem State.nextItem_raced (s : State) : (s.nextItem).raced = s.raced := rfl

@[simp] theorem State.nextItem_rst (s : State) : (s.nextItem).rst = s.rst := rfl

@[simp] theorem State.nextItem_dc (s : State) : (s.nextItem).dc = s.dc := rfl

@[simp] theorem State.nextItem_trace (s : State) : (s.nextItem).trace = s.trace := rfl

@[simp] theorem State.nextItem_panel (s : State) : (s.nextItem).panel = s.panel := rfl

@[simp] theorem State.nextItem_inputs (s : State) : (s.nextItem).inputs = s.inputs := rfl

@[simp] theorem State.nextItem_busyAnswers (s : State) : (s.nextItem).busyAnswers = s.busyAnswers := rfl

@[simp] theorem State.nextItem_setupAnswers (s : State) : (s.nextItem).setupAnswers = s.setupAnswers := rfl

@[simp] theorem State.nextItem_draws (s : State) : (s.nextItem).draws = s.draws := rfl

@[simp] theorem State.nextItem_hostRead (s : State) : (s.nextItem).hostRead = s.hostRead := rfl

/-! `State.raise` -/

@[simp] theorem State.raise_status (c : Result) (s : State) :
    (s.raise c).status = { s.status with result := c, active := false, busyWait := false } := rfl

@[simp] theorem State.raise_fbBase (c : Result) (s : State) : (s.raise c).fbBase = s.fbBase := rfl

@[simp] theorem State.raise_waitLimit (c : Result) (s : State) : (s.raise c).waitLimit = s.waitLimit := rfl

@[simp] theorem State.raise_polls (c : Result) (s : State) : (s.raise c).polls = s.polls := rfl

@[simp] theorem State.raise_seq (c : Result) (s : State) : (s.raise c).seq = { s.seq with v := 0 } := rfl

@[simp] theorem State.raise_params (c : Result) (s : State) : (s.raise c).params = s.params := rfl

@[simp] theorem State.raise_memory (c : Result) (s : State) : (s.raise c).memory = s.memory := rfl

@[simp] theorem State.raise_raced (c : Result) (s : State) : (s.raise c).raced = s.raced := rfl

@[simp] theorem State.raise_rst (c : Result) (s : State) : (s.raise c).rst = s.rst := rfl

@[simp] theorem State.raise_dc (c : Result) (s : State) : (s.raise c).dc = s.dc := rfl

@[simp] theorem State.raise_trace (c : Result) (s : State) : (s.raise c).trace = s.trace := rfl

@[simp] theorem State.raise_panel (c : Result) (s : State) : (s.raise c).panel = s.panel := rfl

@[simp] theorem State.raise_inputs (c : Result) (s : State) : (s.raise c).inputs = s.inputs := rfl

@[simp] theorem State.raise_busyAnswers (c : Result) (s : State) : (s.raise c).busyAnswers = s.busyAnswers := rfl

@[simp] theorem State.raise_setupAnswers (c : Result) (s : State) : (s.raise c).setupAnswers = s.setupAnswers := rfl

@[simp] theorem State.raise_draws (c : Result) (s : State) : (s.raise c).draws = s.draws := rfl

@[simp] theorem State.raise_hostRead (c : Result) (s : State) : (s.raise c).hostRead = s.hostRead := rfl

/-! `State.finish` -/

@[simp] theorem State.finish_status (s : State) :
    (s.finish).status = { s.status with result := .ok, active := false, busyWait := false } := rfl

@[simp] theorem State.finish_fbBase (s : State) : (s.finish).fbBase = s.fbBase := rfl

@[simp] theorem State.finish_waitLimit (s : State) : (s.finish).waitLimit = s.waitLimit := rfl

@[simp] theorem State.finish_polls (s : State) : (s.finish).polls = s.polls := rfl

@[simp] theorem State.finish_seq (s : State) : (s.finish).seq = { s.seq with v := 0 } := rfl

@[simp] theorem State.finish_params (s : State) : (s.finish).params = s.params := rfl

@[simp] theorem State.finish_memory (s : State) : (s.finish).memory = s.memory := rfl

@[simp] theorem State.finish_raced (s : State) : (s.finish).raced = s.raced := rfl

@[simp] theorem State.finish_rst (s : State) : (s.finish).rst = s.rst := rfl

@[simp] theorem State.finish_dc (s : State) : (s.finish).dc = s.dc := rfl

@[simp] theorem State.finish_trace (s : State) : (s.finish).trace = s.trace := rfl

@[simp] theorem State.finish_panel (s : State) : (s.finish).panel = s.panel := rfl

@[simp] theorem State.finish_inputs (s : State) : (s.finish).inputs = s.inputs := rfl

@[simp] theorem State.finish_busyAnswers (s : State) : (s.finish).busyAnswers = s.busyAnswers := rfl

@[simp] theorem State.finish_setupAnswers (s : State) : (s.finish).setupAnswers = s.setupAnswers := rfl

@[simp] theorem State.finish_draws (s : State) : (s.finish).draws = s.draws := rfl

@[simp] theorem State.finish_hostRead (s : State) : (s.finish).hostRead = s.hostRead := rfl

/-! `State.reject` -/

@[simp] theorem State.reject_status (c : Result) (s : State) :
    (s.reject c).status = { s.status with result := c } := rfl

@[simp] theorem State.reject_fbBase (c : Result) (s : State) : (s.reject c).fbBase = s.fbBase := rfl

@[simp] theorem State.reject_waitLimit (c : Result) (s : State) : (s.reject c).waitLimit = s.waitLimit := rfl

@[simp] theorem State.reject_polls (c : Result) (s : State) : (s.reject c).polls = s.polls := rfl

@[simp] theorem State.reject_seq (c : Result) (s : State) : (s.reject c).seq = s.seq := rfl

@[simp] theorem State.reject_params (c : Result) (s : State) : (s.reject c).params = s.params := rfl

@[simp] theorem State.reject_memory (c : Result) (s : State) : (s.reject c).memory = s.memory := rfl

@[simp] theorem State.reject_raced (c : Result) (s : State) : (s.reject c).raced = s.raced := rfl

@[simp] theorem State.reject_rst (c : Result) (s : State) : (s.reject c).rst = s.rst := rfl

@[simp] theorem State.reject_dc (c : Result) (s : State) : (s.reject c).dc = s.dc := rfl

@[simp] theorem State.reject_trace (c : Result) (s : State) : (s.reject c).trace = s.trace := rfl

@[simp] theorem State.reject_panel (c : Result) (s : State) : (s.reject c).panel = s.panel := rfl

@[simp] theorem State.reject_inputs (c : Result) (s : State) : (s.reject c).inputs = s.inputs := rfl

@[simp] theorem State.reject_busyAnswers (c : Result) (s : State) : (s.reject c).busyAnswers = s.busyAnswers := rfl

@[simp] theorem State.reject_setupAnswers (c : Result) (s : State) : (s.reject c).setupAnswers = s.setupAnswers := rfl

@[simp] theorem State.reject_draws (c : Result) (s : State) : (s.reject c).draws = s.draws := rfl

@[simp] theorem State.reject_hostRead (c : Result) (s : State) : (s.reject c).hostRead = s.hostRead := rfl

/-! `State.overrun` -/

@[simp] theorem State.overrun_status (s : State) : (s.overrun).status = { s.status with ovr := true } := rfl

@[simp] theorem State.overrun_fbBase (s : State) : (s.overrun).fbBase = s.fbBase := rfl

@[simp] theorem State.overrun_waitLimit (s : State) : (s.overrun).waitLimit = s.waitLimit := rfl

@[simp] theorem State.overrun_polls (s : State) : (s.overrun).polls = s.polls := rfl

@[simp] theorem State.overrun_seq (s : State) : (s.overrun).seq = s.seq := rfl

@[simp] theorem State.overrun_params (s : State) : (s.overrun).params = s.params := rfl

@[simp] theorem State.overrun_memory (s : State) : (s.overrun).memory = s.memory := rfl

@[simp] theorem State.overrun_raced (s : State) : (s.overrun).raced = s.raced := rfl

@[simp] theorem State.overrun_rst (s : State) : (s.overrun).rst = s.rst := rfl

@[simp] theorem State.overrun_dc (s : State) : (s.overrun).dc = s.dc := rfl

@[simp] theorem State.overrun_trace (s : State) : (s.overrun).trace = s.trace := rfl

@[simp] theorem State.overrun_panel (s : State) : (s.overrun).panel = s.panel := rfl

@[simp] theorem State.overrun_inputs (s : State) : (s.overrun).inputs = s.inputs := rfl

@[simp] theorem State.overrun_busyAnswers (s : State) : (s.overrun).busyAnswers = s.busyAnswers := rfl

@[simp] theorem State.overrun_setupAnswers (s : State) : (s.overrun).setupAnswers = s.setupAnswers := rfl

@[simp] theorem State.overrun_draws (s : State) : (s.overrun).draws = s.draws := rfl

@[simp] theorem State.overrun_hostRead (s : State) : (s.overrun).hostRead = s.hostRead := rfl

/-! `State.accept` -/

@[simp] theorem State.accept_status (op : Op) (arg : Byte) (s : State) :
    (s.accept op arg).status = { s.status with active := true, result := .pending } := rfl

@[simp] theorem State.accept_fbBase (op : Op) (arg : Byte) (s : State) : (s.accept op arg).fbBase = s.fbBase := rfl

@[simp] theorem State.accept_waitLimit (op : Op) (arg : Byte) (s : State) :
    (s.accept op arg).waitLimit = s.waitLimit := rfl

@[simp] theorem State.accept_polls (op : Op) (arg : Byte) (s : State) : (s.accept op arg).polls = s.polls := rfl

@[simp] theorem State.accept_seq (op : Op) (arg : Byte) (s : State) :
    (s.accept op arg).seq = { s.seq with
      opl := op, argl := arg, wll := s.waitLimit, fbl := if op.isFrame then s.fbBase else s.seq.fbl
      item := 0, beat := .start, h := .a, b := 0, j := 0, k := 0, n := 0, w := 0, v := 0 } := rfl

@[simp] theorem State.accept_params (op : Op) (arg : Byte) (s : State) : (s.accept op arg).params = s.params := rfl

@[simp] theorem State.accept_memory (op : Op) (arg : Byte) (s : State) : (s.accept op arg).memory = s.memory := rfl

@[simp] theorem State.accept_raced (op : Op) (arg : Byte) (s : State) : (s.accept op arg).raced = [] := rfl

@[simp] theorem State.accept_rst (op : Op) (arg : Byte) (s : State) : (s.accept op arg).rst = s.rst := rfl

@[simp] theorem State.accept_dc (op : Op) (arg : Byte) (s : State) : (s.accept op arg).dc = s.dc := rfl

@[simp] theorem State.accept_trace (op : Op) (arg : Byte) (s : State) : (s.accept op arg).trace = s.trace := rfl

@[simp] theorem State.accept_panel (op : Op) (arg : Byte) (s : State) : (s.accept op arg).panel = s.panel := rfl

@[simp] theorem State.accept_inputs (op : Op) (arg : Byte) (s : State) : (s.accept op arg).inputs = s.inputs := rfl

@[simp] theorem State.accept_busyAnswers (op : Op) (arg : Byte) (s : State) :
    (s.accept op arg).busyAnswers = s.busyAnswers := rfl

@[simp] theorem State.accept_setupAnswers (op : Op) (arg : Byte) (s : State) :
    (s.accept op arg).setupAnswers = s.setupAnswers := rfl

@[simp] theorem State.accept_draws (op : Op) (arg : Byte) (s : State) : (s.accept op arg).draws = s.draws := rfl

@[simp] theorem State.accept_hostRead (op : Op) (arg : Byte) (s : State) :
    (s.accept op arg).hostRead = s.hostRead := rfl

/-! `waitBegins` -/

@[simp] theorem waitBegins_status (s : State) : (waitBegins s).status = s.status := rfl

@[simp] theorem waitBegins_fbBase (s : State) : (waitBegins s).fbBase = s.fbBase := rfl

@[simp] theorem waitBegins_waitLimit (s : State) : (waitBegins s).waitLimit = s.waitLimit := rfl

@[simp] theorem waitBegins_polls (s : State) : (waitBegins s).polls = 0 := rfl

@[simp] theorem waitBegins_seq (s : State) : (waitBegins s).seq = { s.seq with w := 0 } := rfl

@[simp] theorem waitBegins_params (s : State) : (waitBegins s).params = s.params := rfl

@[simp] theorem waitBegins_memory (s : State) : (waitBegins s).memory = s.memory := rfl

@[simp] theorem waitBegins_raced (s : State) : (waitBegins s).raced = s.raced := rfl

@[simp] theorem waitBegins_rst (s : State) : (waitBegins s).rst = s.rst := rfl

@[simp] theorem waitBegins_dc (s : State) : (waitBegins s).dc = s.dc := rfl

@[simp] theorem waitBegins_trace (s : State) : (waitBegins s).trace = s.trace := rfl

@[simp] theorem waitBegins_panel (s : State) : (waitBegins s).panel = s.panel := rfl

@[simp] theorem waitBegins_inputs (s : State) : (waitBegins s).inputs = s.inputs := rfl

@[simp] theorem waitBegins_busyAnswers (s : State) : (waitBegins s).busyAnswers = s.busyAnswers := rfl

@[simp] theorem waitBegins_setupAnswers (s : State) : (waitBegins s).setupAnswers = s.setupAnswers := rfl

@[simp] theorem waitBegins_draws (s : State) : (waitBegins s).draws = s.draws := rfl

@[simp] theorem waitBegins_hostRead (s : State) : (waitBegins s).hostRead = s.hostRead := rfl

/-! `pollDelay` -/

@[simp] theorem pollDelay_status (s : State) : (pollDelay s).status = s.status := rfl

@[simp] theorem pollDelay_fbBase (s : State) : (pollDelay s).fbBase = s.fbBase := rfl

@[simp] theorem pollDelay_waitLimit (s : State) : (pollDelay s).waitLimit = s.waitLimit := rfl

@[simp] theorem pollDelay_polls (s : State) : (pollDelay s).polls = pollsNext s.polls := rfl

@[simp] theorem pollDelay_seq (s : State) : (pollDelay s).seq = { s.seq with w := s.seq.w + 1, beat := .again } := rfl

@[simp] theorem pollDelay_params (s : State) : (pollDelay s).params = s.params := rfl

@[simp] theorem pollDelay_memory (s : State) : (pollDelay s).memory = s.memory := rfl

@[simp] theorem pollDelay_raced (s : State) : (pollDelay s).raced = s.raced := rfl

@[simp] theorem pollDelay_rst (s : State) : (pollDelay s).rst = s.rst := rfl

@[simp] theorem pollDelay_dc (s : State) : (pollDelay s).dc = s.dc := rfl

@[simp] theorem pollDelay_trace (s : State) : (pollDelay s).trace = .delay Config.pollMs :: s.trace := rfl

@[simp] theorem pollDelay_panel (s : State) : (pollDelay s).panel = s.panel := rfl

@[simp] theorem pollDelay_inputs (s : State) : (pollDelay s).inputs = s.inputs := rfl

@[simp] theorem pollDelay_busyAnswers (s : State) : (pollDelay s).busyAnswers = s.busyAnswers := rfl

@[simp] theorem pollDelay_setupAnswers (s : State) : (pollDelay s).setupAnswers = s.setupAnswers := rfl

@[simp] theorem pollDelay_draws (s : State) : (pollDelay s).draws = s.draws := rfl

@[simp] theorem pollDelay_hostRead (s : State) : (pollDelay s).hostRead = s.hostRead := rfl

/-! `setupDone` -/

@[simp] theorem setupDone_status (o : Orientation) (s : State) :
    (setupDone o s).status = { s.status with tsetupOk := true, orient := some o } := rfl

@[simp] theorem setupDone_fbBase (o : Orientation) (s : State) : (setupDone o s).fbBase = s.fbBase := rfl

@[simp] theorem setupDone_waitLimit (o : Orientation) (s : State) : (setupDone o s).waitLimit = s.waitLimit := rfl

@[simp] theorem setupDone_polls (o : Orientation) (s : State) : (setupDone o s).polls = s.polls := rfl

@[simp] theorem setupDone_seq (o : Orientation) (s : State) :
    (setupDone o s).seq = { s.seq with psrM := (s.params.psrTable.entry o).master, psrS := (s.params.psrTable.entry o).slave } := rfl

@[simp] theorem setupDone_params (o : Orientation) (s : State) : (setupDone o s).params = s.params := rfl

@[simp] theorem setupDone_memory (o : Orientation) (s : State) : (setupDone o s).memory = s.memory := rfl

@[simp] theorem setupDone_raced (o : Orientation) (s : State) : (setupDone o s).raced = s.raced := rfl

@[simp] theorem setupDone_rst (o : Orientation) (s : State) : (setupDone o s).rst = s.rst := rfl

@[simp] theorem setupDone_dc (o : Orientation) (s : State) : (setupDone o s).dc = s.dc := rfl

@[simp] theorem setupDone_trace (o : Orientation) (s : State) : (setupDone o s).trace = s.trace := rfl

@[simp] theorem setupDone_panel (o : Orientation) (s : State) : (setupDone o s).panel = s.panel := rfl

@[simp] theorem setupDone_inputs (o : Orientation) (s : State) : (setupDone o s).inputs = s.inputs := rfl

@[simp] theorem setupDone_busyAnswers (o : Orientation) (s : State) :
    (setupDone o s).busyAnswers = s.busyAnswers := rfl

@[simp] theorem setupDone_setupAnswers (o : Orientation) (s : State) :
    (setupDone o s).setupAnswers = s.setupAnswers := rfl

@[simp] theorem setupDone_draws (o : Orientation) (s : State) : (setupDone o s).draws = s.draws := rfl

@[simp] theorem setupDone_hostRead (o : Orientation) (s : State) : (setupDone o s).hostRead = s.hostRead := rfl

/-! `setupFailed` -/

@[simp] theorem setupFailed_status (s : State) :
    (setupFailed s).status = { s.status with
      tsetupOk := false, pstate := .unconfigured, result := .errSetup, active := false, busyWait := false } := rfl

@[simp] theorem setupFailed_fbBase (s : State) : (setupFailed s).fbBase = s.fbBase := rfl

@[simp] theorem setupFailed_waitLimit (s : State) : (setupFailed s).waitLimit = s.waitLimit := rfl

@[simp] theorem setupFailed_polls (s : State) : (setupFailed s).polls = s.polls := rfl

@[simp] theorem setupFailed_seq (s : State) : (setupFailed s).seq = { s.seq with v := 0 } := rfl

@[simp] theorem setupFailed_params (s : State) : (setupFailed s).params = s.params := rfl

@[simp] theorem setupFailed_memory (s : State) : (setupFailed s).memory = s.memory := rfl

@[simp] theorem setupFailed_raced (s : State) : (setupFailed s).raced = s.raced := rfl

@[simp] theorem setupFailed_rst (s : State) : (setupFailed s).rst = s.rst := rfl

@[simp] theorem setupFailed_dc (s : State) : (setupFailed s).dc = s.dc := rfl

@[simp] theorem setupFailed_trace (s : State) : (setupFailed s).trace = s.trace := rfl

@[simp] theorem setupFailed_panel (s : State) : (setupFailed s).panel = s.panel := rfl

@[simp] theorem setupFailed_inputs (s : State) : (setupFailed s).inputs = s.inputs := rfl

@[simp] theorem setupFailed_busyAnswers (s : State) : (setupFailed s).busyAnswers = s.busyAnswers := rfl

@[simp] theorem setupFailed_setupAnswers (s : State) : (setupFailed s).setupAnswers = s.setupAnswers := rfl

@[simp] theorem setupFailed_draws (s : State) : (setupFailed s).draws = s.draws := rfl

@[simp] theorem setupFailed_hostRead (s : State) : (setupFailed s).hostRead = s.hostRead := rfl

/-! `delayStep` -/

@[simp] theorem delayStep_status (ms : Nat) (s : State) : (delayStep ms s).status = s.status := rfl

@[simp] theorem delayStep_fbBase (ms : Nat) (s : State) : (delayStep ms s).fbBase = s.fbBase := rfl

@[simp] theorem delayStep_waitLimit (ms : Nat) (s : State) : (delayStep ms s).waitLimit = s.waitLimit := rfl

@[simp] theorem delayStep_polls (ms : Nat) (s : State) : (delayStep ms s).polls = s.polls := rfl

@[simp] theorem delayStep_seq (ms : Nat) (s : State) : (delayStep ms s).seq = s.nextItem.seq := rfl

@[simp] theorem delayStep_params (ms : Nat) (s : State) : (delayStep ms s).params = s.params := rfl

@[simp] theorem delayStep_memory (ms : Nat) (s : State) : (delayStep ms s).memory = s.memory := rfl

@[simp] theorem delayStep_raced (ms : Nat) (s : State) : (delayStep ms s).raced = s.raced := rfl

@[simp] theorem delayStep_rst (ms : Nat) (s : State) : (delayStep ms s).rst = s.rst := rfl

@[simp] theorem delayStep_dc (ms : Nat) (s : State) : (delayStep ms s).dc = s.dc := rfl

@[simp] theorem delayStep_trace (ms : Nat) (s : State) : (delayStep ms s).trace = .delay ms :: s.trace := rfl

@[simp] theorem delayStep_panel (ms : Nat) (s : State) : (delayStep ms s).panel = s.panel := rfl

@[simp] theorem delayStep_inputs (ms : Nat) (s : State) : (delayStep ms s).inputs = s.inputs := rfl

@[simp] theorem delayStep_busyAnswers (ms : Nat) (s : State) : (delayStep ms s).busyAnswers = s.busyAnswers := rfl

@[simp] theorem delayStep_setupAnswers (ms : Nat) (s : State) : (delayStep ms s).setupAnswers = s.setupAnswers := rfl

@[simp] theorem delayStep_draws (ms : Nat) (s : State) : (delayStep ms s).draws = s.draws := rfl

@[simp] theorem delayStep_hostRead (ms : Nat) (s : State) : (delayStep ms s).hostRead = s.hostRead := rfl

/-! `State.panelFallsAsleep` -/

@[simp] theorem State.panelFallsAsleep_status (s : State) : (s.panelFallsAsleep).status = s.status := rfl

@[simp] theorem State.panelFallsAsleep_fbBase (s : State) : (s.panelFallsAsleep).fbBase = s.fbBase := rfl

@[simp] theorem State.panelFallsAsleep_waitLimit (s : State) : (s.panelFallsAsleep).waitLimit = s.waitLimit := rfl

@[simp] theorem State.panelFallsAsleep_polls (s : State) : (s.panelFallsAsleep).polls = s.polls := rfl

@[simp] theorem State.panelFallsAsleep_seq (s : State) : (s.panelFallsAsleep).seq = s.seq := rfl

@[simp] theorem State.panelFallsAsleep_params (s : State) : (s.panelFallsAsleep).params = s.params := rfl

@[simp] theorem State.panelFallsAsleep_memory (s : State) : (s.panelFallsAsleep).memory = s.memory := rfl

@[simp] theorem State.panelFallsAsleep_raced (s : State) : (s.panelFallsAsleep).raced = s.raced := rfl

@[simp] theorem State.panelFallsAsleep_rst (s : State) : (s.panelFallsAsleep).rst = s.rst := rfl

@[simp] theorem State.panelFallsAsleep_dc (s : State) : (s.panelFallsAsleep).dc = s.dc := rfl

@[simp] theorem State.panelFallsAsleep_trace (s : State) : (s.panelFallsAsleep).trace = s.trace := rfl

@[simp] theorem State.panelFallsAsleep_inputs (s : State) : (s.panelFallsAsleep).inputs = s.inputs := rfl

@[simp] theorem State.panelFallsAsleep_busyAnswers (s : State) : (s.panelFallsAsleep).busyAnswers = s.busyAnswers := rfl

@[simp] theorem State.panelFallsAsleep_setupAnswers (s : State) : (s.panelFallsAsleep).setupAnswers = s.setupAnswers := rfl

@[simp] theorem State.panelFallsAsleep_draws (s : State) : (s.panelFallsAsleep).draws = s.draws := rfl

@[simp] theorem State.panelFallsAsleep_hostRead (s : State) : (s.panelFallsAsleep).hostRead = s.hostRead := rfl

@[simp] theorem State.panelFallsAsleep_panel (s : State) :
    (s.panelFallsAsleep).panel = s.panel.fallAsleep := rfl

/-! `State.panelPulsed` -/

@[simp] theorem State.panelPulsed_status (s : State) : (s.panelPulsed).status = s.status := rfl

@[simp] theorem State.panelPulsed_fbBase (s : State) : (s.panelPulsed).fbBase = s.fbBase := rfl

@[simp] theorem State.panelPulsed_waitLimit (s : State) : (s.panelPulsed).waitLimit = s.waitLimit := rfl

@[simp] theorem State.panelPulsed_polls (s : State) : (s.panelPulsed).polls = s.polls := rfl

@[simp] theorem State.panelPulsed_seq (s : State) : (s.panelPulsed).seq = s.seq := rfl

@[simp] theorem State.panelPulsed_params (s : State) : (s.panelPulsed).params = s.params := rfl

@[simp] theorem State.panelPulsed_memory (s : State) : (s.panelPulsed).memory = s.memory := rfl

@[simp] theorem State.panelPulsed_raced (s : State) : (s.panelPulsed).raced = s.raced := rfl

@[simp] theorem State.panelPulsed_rst (s : State) : (s.panelPulsed).rst = s.rst := rfl

@[simp] theorem State.panelPulsed_dc (s : State) : (s.panelPulsed).dc = s.dc := rfl

@[simp] theorem State.panelPulsed_trace (s : State) : (s.panelPulsed).trace = s.trace := rfl

@[simp] theorem State.panelPulsed_inputs (s : State) : (s.panelPulsed).inputs = s.inputs := rfl

@[simp] theorem State.panelPulsed_busyAnswers (s : State) : (s.panelPulsed).busyAnswers = s.busyAnswers := rfl

@[simp] theorem State.panelPulsed_setupAnswers (s : State) : (s.panelPulsed).setupAnswers = s.setupAnswers := rfl

@[simp] theorem State.panelPulsed_draws (s : State) : (s.panelPulsed).draws = s.draws := rfl

@[simp] theorem State.panelPulsed_hostRead (s : State) : (s.panelPulsed).hostRead = s.hostRead := rfl

@[simp] theorem State.panelPulsed_panel (s : State) :
    (s.panelPulsed).panel = Panel.unknown false false (s.panel.initMissed && decide (s.seq.opl ≠ .init)) := rfl

/-! `State.panelMisses` -/

@[simp] theorem State.panelMisses_status (s : State) : (s.panelMisses).status = s.status := rfl

@[simp] theorem State.panelMisses_fbBase (s : State) : (s.panelMisses).fbBase = s.fbBase := rfl

@[simp] theorem State.panelMisses_waitLimit (s : State) : (s.panelMisses).waitLimit = s.waitLimit := rfl

@[simp] theorem State.panelMisses_polls (s : State) : (s.panelMisses).polls = s.polls := rfl

@[simp] theorem State.panelMisses_seq (s : State) : (s.panelMisses).seq = s.seq := rfl

@[simp] theorem State.panelMisses_params (s : State) : (s.panelMisses).params = s.params := rfl

@[simp] theorem State.panelMisses_memory (s : State) : (s.panelMisses).memory = s.memory := rfl

@[simp] theorem State.panelMisses_raced (s : State) : (s.panelMisses).raced = s.raced := rfl

@[simp] theorem State.panelMisses_rst (s : State) : (s.panelMisses).rst = s.rst := rfl

@[simp] theorem State.panelMisses_dc (s : State) : (s.panelMisses).dc = s.dc := rfl

@[simp] theorem State.panelMisses_trace (s : State) : (s.panelMisses).trace = s.trace := rfl

@[simp] theorem State.panelMisses_inputs (s : State) : (s.panelMisses).inputs = s.inputs := rfl

@[simp] theorem State.panelMisses_busyAnswers (s : State) : (s.panelMisses).busyAnswers = s.busyAnswers := rfl

@[simp] theorem State.panelMisses_setupAnswers (s : State) : (s.panelMisses).setupAnswers = s.setupAnswers := rfl

@[simp] theorem State.panelMisses_draws (s : State) : (s.panelMisses).draws = s.draws := rfl

@[simp] theorem State.panelMisses_hostRead (s : State) : (s.panelMisses).hostRead = s.hostRead := rfl

@[simp] theorem State.panelMisses_panel (s : State) :
    (s.panelMisses).panel = { s.panel with initMissed := s.panel.initMissed || decide (s.seq.opl = .init) } := rfl

/-! `State.takeBusy` -/

@[simp] theorem State.takeBusy_status (s : State) : (s.takeBusy).status = s.status := by
  unfold State.takeBusy; split <;> rfl

@[simp] theorem State.takeBusy_fbBase (s : State) : (s.takeBusy).fbBase = s.fbBase := by
  unfold State.takeBusy; split <;> rfl

@[simp] theorem State.takeBusy_waitLimit (s : State) : (s.takeBusy).waitLimit = s.waitLimit := by
  unfold State.takeBusy; split <;> rfl

@[simp] theorem State.takeBusy_polls (s : State) : (s.takeBusy).polls = s.polls := by
  unfold State.takeBusy; split <;> rfl

@[simp] theorem State.takeBusy_seq (s : State) : (s.takeBusy).seq = s.seq := by
  unfold State.takeBusy; split <;> rfl

@[simp] theorem State.takeBusy_params (s : State) : (s.takeBusy).params = s.params := by
  unfold State.takeBusy; split <;> rfl

@[simp] theorem State.takeBusy_memory (s : State) : (s.takeBusy).memory = s.memory := by
  unfold State.takeBusy; split <;> rfl

@[simp] theorem State.takeBusy_raced (s : State) : (s.takeBusy).raced = s.raced := by
  unfold State.takeBusy; split <;> rfl

@[simp] theorem State.takeBusy_rst (s : State) : (s.takeBusy).rst = s.rst := by
  unfold State.takeBusy; split <;> rfl

@[simp] theorem State.takeBusy_dc (s : State) : (s.takeBusy).dc = s.dc := by
  unfold State.takeBusy; split <;> rfl

@[simp] theorem State.takeBusy_trace (s : State) : (s.takeBusy).trace = s.trace := by
  unfold State.takeBusy; split <;> rfl

@[simp] theorem State.takeBusy_panel (s : State) : (s.takeBusy).panel = s.panel := by
  unfold State.takeBusy; split <;> rfl

@[simp] theorem State.takeBusy_inputs (s : State) : (s.takeBusy).inputs = s.inputs := by
  unfold State.takeBusy; split <;> rfl

@[simp] theorem State.takeBusy_setupAnswers (s : State) : (s.takeBusy).setupAnswers = s.setupAnswers := by
  unfold State.takeBusy; split <;> rfl

@[simp] theorem State.takeBusy_hostRead (s : State) : (s.takeBusy).hostRead = s.hostRead := by
  unfold State.takeBusy; split <;> rfl

/-! `State.takeSetup` -/

@[simp] theorem State.takeSetup_status (s : State) : (s.takeSetup).status = s.status := by
  unfold State.takeSetup; split <;> rfl

@[simp] theorem State.takeSetup_fbBase (s : State) : (s.takeSetup).fbBase = s.fbBase := by
  unfold State.takeSetup; split <;> rfl

@[simp] theorem State.takeSetup_waitLimit (s : State) : (s.takeSetup).waitLimit = s.waitLimit := by
  unfold State.takeSetup; split <;> rfl

@[simp] theorem State.takeSetup_polls (s : State) : (s.takeSetup).polls = s.polls := by
  unfold State.takeSetup; split <;> rfl

@[simp] theorem State.takeSetup_seq (s : State) : (s.takeSetup).seq = s.seq := by
  unfold State.takeSetup; split <;> rfl

@[simp] theorem State.takeSetup_params (s : State) : (s.takeSetup).params = s.params := by
  unfold State.takeSetup; split <;> rfl

@[simp] theorem State.takeSetup_memory (s : State) : (s.takeSetup).memory = s.memory := by
  unfold State.takeSetup; split <;> rfl

@[simp] theorem State.takeSetup_raced (s : State) : (s.takeSetup).raced = s.raced := by
  unfold State.takeSetup; split <;> rfl

@[simp] theorem State.takeSetup_rst (s : State) : (s.takeSetup).rst = s.rst := by
  unfold State.takeSetup; split <;> rfl

@[simp] theorem State.takeSetup_dc (s : State) : (s.takeSetup).dc = s.dc := by
  unfold State.takeSetup; split <;> rfl

@[simp] theorem State.takeSetup_trace (s : State) : (s.takeSetup).trace = s.trace := by
  unfold State.takeSetup; split <;> rfl

@[simp] theorem State.takeSetup_panel (s : State) : (s.takeSetup).panel = s.panel := by
  unfold State.takeSetup; split <;> rfl

@[simp] theorem State.takeSetup_inputs (s : State) : (s.takeSetup).inputs = s.inputs := by
  unfold State.takeSetup; split <;> rfl

@[simp] theorem State.takeSetup_busyAnswers (s : State) : (s.takeSetup).busyAnswers = s.busyAnswers := by
  unfold State.takeSetup; split <;> rfl

@[simp] theorem State.takeSetup_hostRead (s : State) : (s.takeSetup).hostRead = s.hostRead := by
  unfold State.takeSetup; split <;> rfl

/-! `nextRom` -/

@[simp] theorem nextRom_status (s : State) : (nextRom s).status = s.status := by
  unfold nextRom; split <;> rfl

@[simp] theorem nextRom_fbBase (s : State) : (nextRom s).fbBase = s.fbBase := by
  unfold nextRom; split <;> rfl

@[simp] theorem nextRom_waitLimit (s : State) : (nextRom s).waitLimit = s.waitLimit := by
  unfold nextRom; split <;> rfl

@[simp] theorem nextRom_polls (s : State) : (nextRom s).polls = s.polls := by
  unfold nextRom; split <;> rfl

@[simp] theorem nextRom_params (s : State) : (nextRom s).params = s.params := by
  unfold nextRom; split <;> rfl

@[simp] theorem nextRom_memory (s : State) : (nextRom s).memory = s.memory := by
  unfold nextRom; split <;> rfl

@[simp] theorem nextRom_raced (s : State) : (nextRom s).raced = s.raced := by
  unfold nextRom; split <;> rfl

@[simp] theorem nextRom_rst (s : State) : (nextRom s).rst = s.rst := by
  unfold nextRom; split <;> rfl

@[simp] theorem nextRom_dc (s : State) : (nextRom s).dc = s.dc := by
  unfold nextRom; split <;> rfl

@[simp] theorem nextRom_trace (s : State) : (nextRom s).trace = s.trace := by
  unfold nextRom; split <;> rfl

@[simp] theorem nextRom_panel (s : State) : (nextRom s).panel = s.panel := by
  unfold nextRom; split <;> rfl

@[simp] theorem nextRom_inputs (s : State) : (nextRom s).inputs = s.inputs := by
  unfold nextRom; split <;> rfl

@[simp] theorem nextRom_busyAnswers (s : State) : (nextRom s).busyAnswers = s.busyAnswers := by
  unfold nextRom; split <;> rfl

@[simp] theorem nextRom_setupAnswers (s : State) : (nextRom s).setupAnswers = s.setupAnswers := by
  unfold nextRom; split <;> rfl

@[simp] theorem nextRom_draws (s : State) : (nextRom s).draws = s.draws := by
  unfold nextRom; split <;> rfl

@[simp] theorem nextRom_hostRead (s : State) : (nextRom s).hostRead = s.hostRead := by
  unfold nextRom; split <;> rfl

/-! `nextFill` -/

@[simp] theorem nextFill_status (s : State) : (nextFill s).status = s.status := by
  unfold nextFill; split <;> rfl

@[simp] theorem nextFill_fbBase (s : State) : (nextFill s).fbBase = s.fbBase := by
  unfold nextFill; split <;> rfl

@[simp] theorem nextFill_waitLimit (s : State) : (nextFill s).waitLimit = s.waitLimit := by
  unfold nextFill; split <;> rfl

@[simp] theorem nextFill_polls (s : State) : (nextFill s).polls = s.polls := by
  unfold nextFill; split <;> rfl

@[simp] theorem nextFill_params (s : State) : (nextFill s).params = s.params := by
  unfold nextFill; split <;> rfl

@[simp] theorem nextFill_memory (s : State) : (nextFill s).memory = s.memory := by
  unfold nextFill; split <;> rfl

@[simp] theorem nextFill_raced (s : State) : (nextFill s).raced = s.raced := by
  unfold nextFill; split <;> rfl

@[simp] theorem nextFill_rst (s : State) : (nextFill s).rst = s.rst := by
  unfold nextFill; split <;> rfl

@[simp] theorem nextFill_dc (s : State) : (nextFill s).dc = s.dc := by
  unfold nextFill; split <;> rfl

@[simp] theorem nextFill_trace (s : State) : (nextFill s).trace = s.trace := by
  unfold nextFill; split <;> rfl

@[simp] theorem nextFill_panel (s : State) : (nextFill s).panel = s.panel := by
  unfold nextFill; split <;> rfl

@[simp] theorem nextFill_inputs (s : State) : (nextFill s).inputs = s.inputs := by
  unfold nextFill; split <;> rfl

@[simp] theorem nextFill_busyAnswers (s : State) : (nextFill s).busyAnswers = s.busyAnswers := by
  unfold nextFill; split <;> rfl

@[simp] theorem nextFill_setupAnswers (s : State) : (nextFill s).setupAnswers = s.setupAnswers := by
  unfold nextFill; split <;> rfl

@[simp] theorem nextFill_draws (s : State) : (nextFill s).draws = s.draws := by
  unfold nextFill; split <;> rfl

@[simp] theorem nextFill_hostRead (s : State) : (nextFill s).hostRead = s.hostRead := by
  unfold nextFill; split <;> rfl

/-! `nextPixel` -/

@[simp] theorem nextPixel_status (s : State) : (nextPixel s).status = s.status := by
  unfold nextPixel; split
  · rfl
  · split <;> rfl

@[simp] theorem nextPixel_fbBase (s : State) : (nextPixel s).fbBase = s.fbBase := by
  unfold nextPixel; split
  · rfl
  · split <;> rfl

@[simp] theorem nextPixel_waitLimit (s : State) : (nextPixel s).waitLimit = s.waitLimit := by
  unfold nextPixel; split
  · rfl
  · split <;> rfl

@[simp] theorem nextPixel_polls (s : State) : (nextPixel s).polls = s.polls := by
  unfold nextPixel; split
  · rfl
  · split <;> rfl

@[simp] theorem nextPixel_params (s : State) : (nextPixel s).params = s.params := by
  unfold nextPixel; split
  · rfl
  · split <;> rfl

@[simp] theorem nextPixel_memory (s : State) : (nextPixel s).memory = s.memory := by
  unfold nextPixel; split
  · rfl
  · split <;> rfl

@[simp] theorem nextPixel_raced (s : State) : (nextPixel s).raced = s.raced := by
  unfold nextPixel; split
  · rfl
  · split <;> rfl

@[simp] theorem nextPixel_rst (s : State) : (nextPixel s).rst = s.rst := by
  unfold nextPixel; split
  · rfl
  · split <;> rfl

@[simp] theorem nextPixel_dc (s : State) : (nextPixel s).dc = s.dc := by
  unfold nextPixel; split
  · rfl
  · split <;> rfl

@[simp] theorem nextPixel_trace (s : State) : (nextPixel s).trace = s.trace := by
  unfold nextPixel; split
  · rfl
  · split <;> rfl

@[simp] theorem nextPixel_panel (s : State) : (nextPixel s).panel = s.panel := by
  unfold nextPixel; split
  · rfl
  · split <;> rfl

@[simp] theorem nextPixel_inputs (s : State) : (nextPixel s).inputs = s.inputs := by
  unfold nextPixel; split
  · rfl
  · split <;> rfl

@[simp] theorem nextPixel_busyAnswers (s : State) : (nextPixel s).busyAnswers = s.busyAnswers := by
  unfold nextPixel; split
  · rfl
  · split <;> rfl

@[simp] theorem nextPixel_setupAnswers (s : State) : (nextPixel s).setupAnswers = s.setupAnswers := by
  unfold nextPixel; split
  · rfl
  · split <;> rfl

@[simp] theorem nextPixel_draws (s : State) : (nextPixel s).draws = s.draws := by
  unfold nextPixel; split
  · rfl
  · split <;> rfl

@[simp] theorem nextPixel_hostRead (s : State) : (nextPixel s).hostRead = s.hostRead := by
  unfold nextPixel; split
  · rfl
  · split <;> rfl

/-! `endOperation` -/

@[simp] theorem endOperation_fbBase (s : State) : (endOperation s).fbBase = s.fbBase := by
  unfold endOperation; split <;> rfl

@[simp] theorem endOperation_waitLimit (s : State) : (endOperation s).waitLimit = s.waitLimit := by
  unfold endOperation; split <;> rfl

@[simp] theorem endOperation_polls (s : State) : (endOperation s).polls = s.polls := by
  unfold endOperation; split <;> rfl

@[simp] theorem endOperation_seq (s : State) : (endOperation s).seq = { s.seq with v := 0 } := by
  unfold endOperation; split <;> rfl

@[simp] theorem endOperation_params (s : State) : (endOperation s).params = s.params := by
  unfold endOperation; split <;> rfl

@[simp] theorem endOperation_memory (s : State) : (endOperation s).memory = s.memory := by
  unfold endOperation; split <;> rfl

@[simp] theorem endOperation_raced (s : State) : (endOperation s).raced = s.raced := by
  unfold endOperation; split <;> rfl

@[simp] theorem endOperation_rst (s : State) : (endOperation s).rst = s.rst := by
  unfold endOperation; split <;> rfl

@[simp] theorem endOperation_dc (s : State) : (endOperation s).dc = s.dc := by
  unfold endOperation; split <;> rfl

@[simp] theorem endOperation_trace (s : State) : (endOperation s).trace = s.trace := by
  unfold endOperation; split <;> rfl

@[simp] theorem endOperation_panel (s : State) : (endOperation s).panel = s.panel := by
  unfold endOperation; split <;> rfl

@[simp] theorem endOperation_inputs (s : State) : (endOperation s).inputs = s.inputs := by
  unfold endOperation; split <;> rfl

@[simp] theorem endOperation_busyAnswers (s : State) : (endOperation s).busyAnswers = s.busyAnswers := by
  unfold endOperation; split <;> rfl

@[simp] theorem endOperation_setupAnswers (s : State) : (endOperation s).setupAnswers = s.setupAnswers := by
  unfold endOperation; split <;> rfl

@[simp] theorem endOperation_draws (s : State) : (endOperation s).draws = s.draws := by
  unfold endOperation; split <;> rfl

@[simp] theorem endOperation_hostRead (s : State) : (endOperation s).hostRead = s.hostRead := by
  unfold endOperation; split <;> rfl

end Sys2Proof.Machine
end

