-- ==== Sys2Proof/Laws/Ops.lean ====
section
/-! SUPPORT. Laws/Ops.lean: what the shared operations can do, said once: requests, the end of operations, and wire
frames. -/

namespace Sys2Proof.Machine

@[simp] theorem mapNext_next (f : State → State) (s : State) : mapNext f (.next s) = .next (f s) := rfl

theorem mapNext_eq_next {f : State → State} {r : StepResult} {t : State} (h : mapNext f r = .next t) :
    ∃ u, r = .next u ∧ t = f u := by
  cases r with
  | next u => exact ⟨u, rfl, by simpa [mapNext] using h.symm⟩
  | fault r => simp [mapNext] at h
  | refused r => simp [mapNext] at h

/-! ### Requests -/

/-- A request is dropped, rejected or accepted. -/
theorem request_cases (op : Op) (arg : Byte) (s : State) :
    (s.status.active = true ∧ request op arg s = s.overrun) ∨
    (s.status.active = false ∧ ∃ code, requestError op arg s = some code ∧ request op arg s = s.reject code) ∨
    (s.status.active = false ∧ requestError op arg s = none ∧ request op arg s = s.accept op arg) := by
  unfold request
  cases ha : s.status.active with
  | true => simp
  | false => cases he : requestError op arg s <;> simp

/-- The codes a request can be rejected with are errors, never OK or PENDING. -/
theorem requestError_ne {op : Op} {arg : Byte} {s : State} {code : Result} (h : requestError op arg s = some code) :
    code ≠ .pending ∧ code ≠ .ok := by
  unfold requestError at h
  repeat' split at h
  all_goals simp only [Option.some.injEq, reduceCtorEq] at h
  all_goals subst h; decide

/-- What holds where a request passes every check (60_exceptions.md R323). -/
theorem requestError_none {op : Op} {arg : Byte} {s : State} (h : requestError op arg s = none) :
    (op = .init → orientationOf arg ≠ none) ∧ (op ≠ .init → s.status.tsetupOk = true) ∧
    (op.busWrite = true → s.status.pstate ≠ .deepSleep) ∧ op.variantOk s.status.orient = true ∧
    (op.isFrame = true → s.fbBase.toNat + s.params.fbLen ≤ addressSpace) := by
  unfold requestError at h
  repeat' split at h
  all_goals simp_all

/-- The meaning of an instruction that is a host request is that request. -/
theorem exec_request {w : Word} {i : Instr} (s : State) (h : decodeRequest w = .ok i) :
    ∃ op arg, exec i s = .next (request op arg s) := by
  unfold decodeRequest decodeOp noOperand at h
  repeat' split at h
  all_goals first | contradiction | (cases h; exact ⟨_, _, rfl⟩)

/-! ### Wire frames -/

/-- The meaning of a wire command sends its code and touches nothing else but the panel's record. -/
theorem exec_wire {n : Nat} {i : Instr} (s : State) (h : wireCommand n = some i) :
    ∃ p, exec i s = .next { s with trace := .spi (BitVec.ofNat 8 n) :: s.trace, panel := p } := by
  unfold wireCommand at h
  split at h <;> first | contradiction | (cases h; exact ⟨_, rfl⟩)

theorem wireFrame_getLsbD (d : Bool) (b : Byte) (i : Nat) :
    (wireFrame d b).getLsbD i = if i < 8 then b.getLsbD i else (BitVec.ofBool d).getLsbD (i - 8) :=
  BitVec.getLsbD_append

theorem frameByte_wireFrame (d : Bool) (b : Byte) : frameByte (wireFrame d b) = b := by
  unfold frameByte
  ext i hi
  rw [BitVec.getElem_extractLsb', Nat.zero_add, wireFrame_getLsbD]
  simp [hi, BitVec.getLsbD_eq_getElem]

theorem frameIsData_wireFrame (d : Bool) (b : Byte) : frameIsData (wireFrame d b) = d := by
  unfold frameIsData
  rw [wireFrame_getLsbD]
  simp

/-- Whatever the frame, `Spi(b)` is emitted and nothing else changes but the panel's record. -/
theorem transfer_next (b : Byte) (s : State) :
    ∃ p, transfer b s = .next { s with trace := .spi b :: s.trace, panel := p } := by
  unfold transfer
  split
  · rename_i i h
    unfold decodeFrame at h
    split at h
    · contradiction
    · split at h
      · rename_i hw
        cases h
        obtain ⟨p, hp⟩ := exec_wire s hw
        rw [frameByte_wireFrame] at hp
        exact ⟨p, by simpa using hp⟩
      · contradiction
  · exact ⟨_, rfl⟩
  · exact ⟨_, rfl⟩

/-- SendCommand and SendData: the DC write, or the byte and the sequencer's move. -/
theorem sendByte_cases (lvl : Level) (b : Byte) (after : State → State) (s : State) :
    (s.seq.beat ≠ .framed ∧ sendByte lvl b after s = .next ((s.writeDc lvl).setBeat .framed)) ∨
    (s.seq.beat = .framed ∧
      ∃ p, sendByte lvl b after s = .next (after { s with trace := .spi b :: s.trace, panel := p })) := by
  unfold sendByte
  split
  · rename_i h
    obtain ⟨p, hp⟩ := transfer_next b s
    exact .inr ⟨h, p, by rw [hp]; rfl⟩
  all_goals rename_i h; exact .inl ⟨by simp [h], rfl⟩

end Sys2Proof.Machine
end

