-- ==== Sys2Proof/Laws/Engine.lean ====
section
/-! SUPPORT. Laws/Engine.lean: one inversion of an engine step. An engine step that answers a next state made one of the
moves below; invariants are derived from the moves, not from the step function. -/

namespace Sys2Proof.Machine

/-- The line of the pseudocode the sequencer stands at. -/
def State.line (s : State) : Option Item := (program s)[s.seq.item]?

/-- The loops a byte can be part of: how the sequencer moves on after it. -/
inductive Advance (s : State) : (State → State) → Prop
  | cmd (b : Byte) : s.line = some (.cmd b) → Advance s State.nextItem
  | data (b : Byte) : s.line = some (.data b) → Advance s State.nextItem
  | rom : s.line = some .rom → Advance s nextRom
  | fill : s.line = some .fill → Advance s nextFill
  | pixels (split : Split) (half : Half) : s.line = some (.pixels split half) → Advance s nextPixel

/-- What an engine step can do to a state, one case per kind of event. -/
inductive EngineMove (s : State) : State → Prop
  | idle : s.status.active = false → EngineMove s s
  | ended : s.status.active = true → s.line = none ∨ (s.line = some .rom ∧ s.params.initRom[s.seq.k]? = none) →
      EngineMove s (endOperation s)
  | setupOk (o : Orientation) : s.status.active = true → s.line = some .setup → orientationOf s.seq.argl = some o →
      EngineMove s (setupDone o (s.takeSetup.emit (.setup true))).nextItem
  | setupFail : s.status.active = true → s.line = some .setup →
      EngineMove s (setupFailed (s.takeSetup.emit (.setup false)))
  | rst (lvl : Level) : s.status.active = true → s.line = some (.rst lvl) → EngineMove s (rstStep lvl s)
  | delay (ms : Nat) : s.status.active = true → s.line = some (.delay ms) → EngineMove s (delayStep ms s)
  | wait : s.status.active = true → s.line = some .wait → EngineMove s (waitStep s)
  | dc (lvl : Level) (after : State → State) : s.status.active = true → Advance s after →
      EngineMove s ((s.writeDc lvl).setBeat .framed)
  | byte (b : Byte) (p : Panel) (after : State → State) : s.status.active = true → s.seq.beat = .framed →
      Advance s after → EngineMove s (after { s with trace := .spi b :: s.trace, panel := p })
  | fetch (split : Split) (half : Half) (v : Byte) (d a : Nat) : s.status.active = true →
      s.line = some (.pixels split half) →
      EngineMove s { s.emit (.fbRead a) with seq := { s.seq with v := v, h := half, beat := .fetched }, draws := d }

theorem sendByte_move {lvl : Level} {b : Byte} {after : State → State} {s t : State} (ha : s.status.active = true)
    (hd : Advance s after) (h : sendByte lvl b after s = .next t) : EngineMove s t := by
  rcases sendByte_cases lvl b after s with ⟨_, he⟩ | ⟨hb, p, he⟩
  · rw [he] at h
    cases h
    exact .dc lvl after ha hd
  · rw [he] at h
    cases h
    exact .byte b p after ha hb hd

theorem itemStep_move {i : Item} {s t : State} (ha : s.status.active = true) (hl : s.line = some i)
    (h : itemStep i s = .next t) : EngineMove s t := by
  cases i with
  | setup =>
    simp only [itemStep, setupStep] at h
    split at h
    · rename_i hs
      rw [hs] at h
      split at h
      · rename_i o ho
        cases h
        exact .setupOk o ha hl ho
      · contradiction
    · rename_i hs
      rw [Bool.not_eq_true] at hs
      rw [hs] at h
      cases h
      exact .setupFail ha hl
  | rst lvl => cases h; exact .rst lvl ha hl
  | delay ms => cases h; exact .delay ms ha hl
  | wait => cases h; exact .wait ha hl
  | cmd b => exact sendByte_move ha (.cmd b hl) h
  | data b => exact sendByte_move ha (.data b hl) h
  | rom =>
    simp only [itemStep, romStep] at h
    split at h
    · rename_i hk
      cases h
      exact .ended ha (.inr ⟨hl, hk⟩)
    · split at h
      · contradiction
      · exact sendByte_move ha (.rom hl) h
  | fill => exact sendByte_move ha (.fill hl) h
  | pixels split half =>
    simp only [itemStep, pixelStep] at h
    split at h
    · exact sendByte_move ha (.pixels split half hl) h
    · exact sendByte_move ha (.pixels split half hl) h
    all_goals
      unfold fetchByte at h
      split at h
      · cases h
        exact .fetch split half _ _ _ ha hl
      · contradiction
  | noOrientation => contradiction

/-- Inversion of an engine step. -/
theorem engineStep_move {s t : State} (h : engineStep s = .next t) : EngineMove s t := by
  unfold engineStep at h
  split at h
  · rename_i ha
    split at h
    · rename_i i hl
      exact itemStep_move ha hl h
    · rename_i hl
      cases h
      exact .ended ha (.inl hl)
  · rename_i ha
    cases h
    exact .idle (by simpa using ha)

/-- What one BUSY read of a wait does: end the wait, give up, or go on to the poll delay. -/
theorem pollBusy_cases (s : State) :
    (s.busyAnswer = .high ∧
      pollBusy s = ((s.takeBusy.emit (.pinRead .high)).setBusyWait false).nextItem) ∨
    (s.busyAnswer = .low ∧ s.seq.wll ≠ 0 ∧ s.seq.w = s.seq.wll.toNat ∧
      pollBusy s = ((s.takeBusy.emit (.pinRead .low)).raise .errTimeout).panelMisses) ∨
    (s.busyAnswer = .low ∧ (s.seq.wll = 0 ∨ s.seq.w ≠ s.seq.wll.toNat) ∧
      pollBusy s = ((s.takeBusy.emit (.pinRead .low)).setBusyWait true).setBeat .polled) := by
  unfold pollBusy
  cases hb : s.busyAnswer with
  | high => simp
  | low =>
    by_cases hw : s.seq.wll ≠ 0 ∧ s.seq.w = s.seq.wll.toNat
    · exact .inr (.inl ⟨rfl, hw.1, hw.2, if_pos hw⟩)
    · exact .inr (.inr ⟨rfl, by tauto, if_neg hw⟩)

/-- A wait line: its poll delay, or a BUSY read, the first one of the wait with POLLS and w at 0. -/
theorem waitStep_cases (s : State) :
    (s.seq.beat = .polled ∧ waitStep s = pollDelay s) ∨
    (s.seq.beat = .again ∧ waitStep s = pollBusy s) ∨
    (s.seq.beat ≠ .polled ∧ s.seq.beat ≠ .again ∧ waitStep s = pollBusy (waitBegins s)) := by
  unfold waitStep
  cases s.seq.beat <;> simp

/-! ### Lines of the programs -/

/-- A program depends on the latched operation, ARGL, the parameters and ORIENT only. -/
theorem program_congr {s t : State} (h1 : t.seq.opl = s.seq.opl) (h2 : t.seq.argl = s.seq.argl)
    (h3 : t.params = s.params) (h4 : t.status.orient = s.status.orient) : program t = program s := by
  unfold program
  rw [h1, h2, h3, h4]

/-- Lines that neither set up the transport, nor write RST, nor walk INIT_ROM. -/
def Item.plain : Item → Bool
  | .setup | .rst _ | .rom => false
  | .delay _ | .wait | .cmd _ | .data _ | .fill | .pixels _ _ | .noOrientation => true

theorem frameProgram_plain (split : Split) (p : Params) (o : Option Orientation) :
    ∀ i ∈ frameProgram split p o, i.plain = true := by
  cases o <;> simp [frameProgram, select, Item.plain]

/-- Which operations a line belongs to, and where. -/
theorem line_cases {s : State} {i : Item} (h : s.line = some i) :
    (s.seq.opl = .init ∧ ((s.seq.item = 0 ∧ i = .setup) ∨ (s.seq.item = 1 ∧ i = .rst .low) ∨
      (s.seq.item = 2 ∧ i = .delay 200) ∨ (s.seq.item = 3 ∧ i = .rst .high) ∨ (s.seq.item = 4 ∧ i = .delay 200) ∨
      (s.seq.item = 5 ∧ i = .wait) ∨ (s.seq.item = 6 ∧ i = .rom))) ∨
    (s.seq.opl = .reset ∧ ((s.seq.item = 0 ∧ i = .rst .low) ∨ (s.seq.item = 1 ∧ i = .delay 200) ∨
      (s.seq.item = 2 ∧ i = .rst .high) ∨ (s.seq.item = 3 ∧ i = .delay 200) ∨ (s.seq.item = 4 ∧ i = .wait))) ∨
    (s.seq.opl = .waitIdle ∧ i = .wait) ∨
    (s.seq.opl.busWrite = true ∧ i.plain = true) := by
  have hm : ∀ {l : List Item} {n : Nat}, (∀ j ∈ l, j.plain = true) → l[n]? = some i → i.plain = true :=
    fun hl h => hl _ (List.mem_of_getElem? h)
  unfold State.line program at h
  cases ho : s.seq.opl with
  | init =>
    rw [ho] at h
    refine .inl ⟨rfl, ?_⟩
    have hlt : s.seq.item < 7 := by
      by_contra hc
      rw [List.getElem?_eq_none (by simp [initProgram, panelReset]; omega)] at h
      contradiction
    generalize s.seq.item = m at *
    interval_cases m <;> cases h <;> simp [Config.resetLowMs, Config.resetHighMs]
  | reset =>
    rw [ho] at h
    refine .inr (.inl ⟨rfl, ?_⟩)
    have hlt : s.seq.item < 5 := by
      by_contra hc
      rw [List.getElem?_eq_none (by simp [resetProgram, panelReset]; omega)] at h
      contradiction
    generalize s.seq.item = m at *
    interval_cases m <;> cases h <;> simp [Config.resetLowMs, Config.resetHighMs]
  | waitIdle =>
    rw [ho] at h
    have := List.mem_of_getElem? h
    exact .inr (.inr (.inl ⟨rfl, by simpa [waitIdleProgram] using this⟩))
  | sendCmd => rw [ho] at h; exact .inr (.inr (.inr ⟨rfl, hm (by simp [sendCmdProgram, Item.plain]) h⟩))
  | sendData => rw [ho] at h; exact .inr (.inr (.inr ⟨rfl, hm (by simp [sendDataProgram, Item.plain]) h⟩))
  | clear => rw [ho] at h; exact .inr (.inr (.inr ⟨rfl, hm (by simp [clearProgram, select, Item.plain]) h⟩))
  | frameH => rw [ho] at h; exact .inr (.inr (.inr ⟨rfl, hm (frameProgram_plain _ _ _) h⟩))
  | frameV => rw [ho] at h; exact .inr (.inr (.inr ⟨rfl, hm (frameProgram_plain _ _ _) h⟩))
  | displaySleep =>
    rw [ho] at h
    exact .inr (.inr (.inr ⟨rfl, hm (by simp [displaySleepProgram, select, Item.plain]) h⟩))

end Sys2Proof.Machine
end

