-- ==== Sys2Proof/Laws/Host.lean ====
section
/-! SUPPORT. Laws/Host.lean: one inversion of a step: what an action at the host side can do, and when the engine moves. -/

namespace Sys2Proof.Machine

/-- What an action at the host side, other than a turn of the engine, can do to a state. -/
inductive HostMove (s : State) : State → Prop
  | request (op : Op) (arg : Byte) : HostMove s (request op arg s)
  | illegal : HostMove s (illegalRequest s)
  | status (v : Word) : HostMove s (writeStatus v s)
  | fbBase (v : Word) : HostMove s (writeFbBase v s)
  | waitLimit (v : Word) : HostMove s (writeWaitLimit v s)
  | ignored : HostMove s s
  | read (v : Word) : HostMove s { s with hostRead := v }
  | sync : HostMove s (syncRound s)

/-- A register access that is not refused. -/
theorem hostWrite_move {offset width : Nat} {v : Word} {s t : State} (h : hostWrite offset width v s = .next t) :
    HostMove s t := by
  unfold hostWrite at h
  split at h
  · unfold writeRegister at h
    split at h
    · unfold writeCmd at h
      split at h
      · rename_i i hd
        obtain ⟨op, arg, he⟩ := exec_request s hd
        rw [he] at h
        cases h
        exact .request op arg
      · cases h; exact .illegal
    · cases h; exact .status v
    · cases h; exact .fbBase v
    · cases h; exact .waitLimit v
    · cases h; exact .ignored
  · contradiction

/-- Inversion of an action at the host side. -/
theorem hostStep_cases {a : HostAction} {s t : State} (h : hostStep a s = .next t) :
    (HostMove s t ∧ a ≠ .engineReset) ∨ (∃ addr v, a = .storeByte addr v ∧ t = hostStore addr.toNat v s) ∨
    (a = .engineReset ∧ t = engineReset s) ∨ (a = .tick ∧ EngineMove s t) := by
  cases a with
  | write offset width v => exact .inl ⟨hostWrite_move h, by simp⟩
  | read offset width =>
    simp only [hostStep, hostReadRegister] at h
    split at h
    · cases h; exact .inl ⟨.read _, by simp⟩
    · contradiction
  | storeByte addr v => cases h; exact .inr (.inl ⟨addr, v, rfl, rfl⟩)
  | engineReset => cases h; exact .inr (.inr (.inl ⟨rfl, rfl⟩))
  | tick => exact .inr (.inr (.inr ⟨rfl, engineStep_move h⟩))
  | sync => cases h; exact .inl ⟨.sync, by simp⟩

/-- Inversion of a step: the engine moved, or the head of the queue acted on the state without it. -/
theorem step_cases {s t : State} (h : step s = .next t) :
    (s.inputs = [] ∧ EngineMove s t) ∨
    (∃ a rest, s.inputs = a :: rest ∧ hostStep a { s with inputs := rest } = .next t) := by
  unfold step at h
  split at h
  · rename_i hi
    exact .inl ⟨hi, engineStep_move h⟩
  · rename_i a rest hi
    exact .inr ⟨a, rest, hi, h⟩

/-! ### Running -/

@[simp] theorem run_zero (s : State) : run 0 s = .next s := rfl

/-- One step, then the rest. -/
theorem run_succ {n : Nat} {s t : State} (h : step s = .next t) : run (n + 1) s = run n t := by
  rw [run, h]

/-- Runs compose. -/
theorem run_add {m n : Nat} {s t : State} (h : run m s = .next t) : run (m + n) s = run n t := by
  induction m generalizing s with
  | zero =>
    rw [run_zero] at h
    cases h
    rw [Nat.zero_add]
  | succ m ih =>
    rw [Nat.succ_add, run]
    rw [run] at h
    split at h
    · exact ih h
    · contradiction
    · contradiction

theorem core_run_succ (M : Host.Core) (n : Nat) (s : M.State) :
    M.run (n + 1) s =
      match M.step s with
      | .next t => M.run n t
      | .fault r => .fault r
      | .refused r => .refused r := rfl

/-- The run of the statements is the run of the host's interface. -/
theorem run_eq_core (n : Nat) (s : State) : run n s = Host.Core.run Sys2Proof.core n s := by
  induction n generalizing s with
  | zero => rfl
  | succ n ih =>
    refine Eq.trans ?_ (core_run_succ Sys2Proof.core n s).symm
    unfold run
    have hs : Sys2Proof.core.step s = step s := rfl
    rw [hs]
    cases step s with
    | next t => exact ih t
    | fault r => rfl
    | refused r => rfl

end Sys2Proof.Machine
end

