-- ==== Sys2Proof/Laws/Memory.lean ====
section
/-! SUPPORT. Laws/Memory.lean: the laws of memory cells, and that every operation on host memory keeps the canonical
form. -/

namespace Sys2Proof.Machine

/-! ### Reading after writing -/

theorem Cells.find_insert_same (a : Nat) (v : Byte) (m : List Host.Cell) : Cells.find (Cells.insert a v m) a = some v := by
  induction m with
  | nil => simp [Cells.insert, Cells.find]
  | cons c m ih =>
    unfold Cells.insert
    split
    · simp [Cells.find]
    · split
      · simp [Cells.find]
      · have : c.1 ≠ a := fun h => by simp_all
        simp [Cells.find, this, ih]

theorem Cells.find_insert_other {a x : Nat} (v : Byte) (m : List Host.Cell) (h : x ≠ a) :
    Cells.find (Cells.insert a v m) x = Cells.find m x := by
  induction m with
  | nil => simp [Cells.insert, Cells.find, h.symm]
  | cons c m ih =>
    unfold Cells.insert
    split
    · simp [Cells.find, h.symm]
    · split
      · rename_i h2
        have : c.1 ≠ x := fun e => h (by omega)
        simp [Cells.find, h.symm, this]
      · simp [Cells.find, ih]

theorem Cells.find_none_of_below {a : Nat} {m : List Host.Cell} (h : ∀ c ∈ m, a < c.1) : Cells.find m a = none := by
  induction m with
  | nil => rfl
  | cons c m ih =>
    have hc : c.1 ≠ a := by have := h c (by simp); omega
    simp [Cells.find, hc, ih (fun d hd => h d (by simp [hd]))]

theorem Cells.find_erase_same {a : Nat} {m : List Host.Cell} (h : Cells.rising m) : Cells.find (Cells.erase a m) a = none := by
  induction m with
  | nil => rfl
  | cons c m ih =>
    rw [Cells.rising, List.pairwise_cons] at h
    unfold Cells.erase
    split
    · rename_i hc
      exact Cells.find_none_of_below (fun d hd => hc ▸ h.1 d hd)
    · rename_i hc
      simp [Cells.find, hc, ih h.2]

theorem Cells.find_erase_other {a x : Nat} (m : List Host.Cell) (h : x ≠ a) :
    Cells.find (Cells.erase a m) x = Cells.find m x := by
  induction m with
  | nil => rfl
  | cons c m ih =>
    unfold Cells.erase
    split
    · rename_i hc
      have : c.1 ≠ x := fun e => h (by omega)
      simp [Cells.find, this]
    · simp [Cells.find, ih]

/-! ### The canonical form -/

theorem Cells.mem_insert {a : Nat} {v : Byte} {m : List Host.Cell} {c : Host.Cell} (h : c ∈ Cells.insert a v m) :
    c = (a, v) ∨ c ∈ m := by
  induction m with
  | nil => simpa [Cells.insert] using h
  | cons d m ih =>
    unfold Cells.insert at h
    split at h
    · simpa using h
    · split at h
      · rcases List.mem_cons.1 h with h | h <;> simp [h]
      · rcases List.mem_cons.1 h with h | h
        · simp [h]
        · rcases ih h with h | h <;> simp [h]

theorem Cells.mem_of_mem_erase {a : Nat} {m : List Host.Cell} {c : Host.Cell} (h : c ∈ Cells.erase a m) : c ∈ m := by
  induction m with
  | nil => simp [Cells.erase] at h
  | cons d m ih =>
    unfold Cells.erase at h
    split at h
    · simp [h]
    · rcases List.mem_cons.1 h with h | h
      · simp [h]
      · simp [ih h]

theorem Cells.insert_rising {a : Nat} {v : Byte} {m : List Host.Cell} (h : Cells.rising m) :
    Cells.rising (Cells.insert a v m) := by
  induction m with
  | nil => simp [Cells.rising, Cells.insert]
  | cons c m ih =>
    have hc := List.pairwise_cons.1 h
    unfold Cells.insert
    split
    · rename_i hlt
      refine List.pairwise_cons.2 ⟨fun d hd => ?_, h⟩
      rcases List.mem_cons.1 hd with rfl | hd
      · exact hlt
      · exact Nat.lt_trans hlt (hc.1 d hd)
    · split
      · rename_i he
        exact List.pairwise_cons.2 ⟨fun d hd => by have := hc.1 d hd; simp only; omega, hc.2⟩
      · refine List.pairwise_cons.2 ⟨fun d hd => ?_, ih hc.2⟩
        rcases Cells.mem_insert hd with rfl | hd
        · simp only; omega
        · exact hc.1 d hd

theorem Cells.erase_rising {a : Nat} {m : List Host.Cell} (h : Cells.rising m) : Cells.rising (Cells.erase a m) := by
  induction m with
  | nil => simp [Cells.rising, Cells.erase]
  | cons c m ih =>
    have hc := List.pairwise_cons.1 h
    unfold Cells.erase
    split
    · exact hc.2
    · exact List.pairwise_cons.2 ⟨fun d hd => hc.1 d (Cells.mem_of_mem_erase hd), ih hc.2⟩

theorem Memory.wf_nil : Memory.wf [] := by simp [Memory.wf, Cells.rising]

theorem Memory.write_wf {a : Nat} {v : Byte} {m : List Host.Cell} (ha : a < addressSpace) (h : Memory.wf m) :
    Memory.wf (Memory.write m a v) := by
  unfold Memory.write
  split
  · exact ⟨Cells.erase_rising h.1, fun c hc => h.2 c (Cells.mem_of_mem_erase hc)⟩
  · rename_i hv
    refine ⟨Cells.insert_rising h.1, fun c hc => ?_⟩
    rcases Cells.mem_insert hc with rfl | hc
    · exact ⟨ha, hv⟩
    · exact h.2 c hc

/-! ### Host memory as the engine reads it -/

theorem Memory.read_write_same {a : Nat} {v : Byte} {m : List Host.Cell} (h : Memory.wf m) :
    Memory.read (Memory.write m a v) a = v := by
  unfold Memory.read Memory.write
  split
  · rename_i hv
    simp [Cells.find_erase_same h.1, hv]
  · simp [Cells.find_insert_same]

theorem Memory.read_write_other {a x : Nat} (v : Byte) (m : List Host.Cell) (h : x ≠ a) :
    Memory.read (Memory.write m a v) x = Memory.read m x := by
  unfold Memory.read Memory.write
  split <;> simp [Cells.find_erase_other, Cells.find_insert_other, h]

/-- A host store keeps the canonical form of host memory. -/
theorem hostStore_wf {a : Word} {v : Byte} {s : State} (h : Memory.wf s.memory) :
    Memory.wf (hostStore a.toNat v s).memory :=
  Memory.write_wf a.isLt h

end Sys2Proof.Machine
end

