-- ==== Sys2Proof/Laws/Panel.lean ====
section
/-! SUPPORT. Laws/Panel.lean: what the operations on the panel's record leave alone, and when a frame changes it. -/

namespace Sys2Proof.Machine

/-! ### `Panel.onSelected` -/

@[simp] theorem Panel.onSelected_select (f g : ControllerRecord → ControllerRecord) (p : Panel) :
    (p.onSelected f g).select = p.select := by
  unfold Panel.onSelected; split <;> rfl

@[simp] theorem Panel.onSelected_stream (f g : ControllerRecord → ControllerRecord) (p : Panel) :
    (p.onSelected f g).stream = p.stream := by
  unfold Panel.onSelected; split <;> rfl

@[simp] theorem Panel.onSelected_initMissed (f g : ControllerRecord → ControllerRecord) (p : Panel) :
    (p.onSelected f g).initMissed = p.initMissed := by
  unfold Panel.onSelected; split <;> rfl

/-- The master does f, or g, or nothing, as the selection has it. -/
theorem Panel.onSelected_master (f g : ControllerRecord → ControllerRecord) (p : Panel) :
    (p.onSelected f g).master = match p.select with
      | .unknown => g p.master
      | .both | .master => f p.master
      | .slave => p.master := by
  cases p with | mk select => cases select <;> rfl

/-- The slave does f, or g, or nothing, as the selection has it. -/
theorem Panel.onSelected_slave (f g : ControllerRecord → ControllerRecord) (p : Panel) :
    (p.onSelected f g).slave = match p.select with
      | .unknown => g p.slave
      | .both | .slave => f p.slave
      | .master => p.slave := by
  cases p with | mk select => cases select <;> rfl

/-! ### Listening -/

/-- When the reading accounts for a command. -/
theorem State.panelListens_iff (s : State) :
    s.panelListens = true ↔
      s.panel.master.mayBeAsleep = false ∧ s.panel.slave.mayBeAsleep = false ∧ s.panel.initMissed = false := by
  simp [State.panelListens, and_assoc]

/-- A panel that listens takes data. -/
theorem State.panelTakesData_of_listens {s : State} (h : s.panelListens = true) : s.panelTakesData = true := by
  simp [State.panelTakesData, h]

/-- Forgetting keeps whether a panel listens. -/
@[simp] theorem Panel.forget_forget (p : Panel) : p.forget.forget = p.forget := rfl

/-! ### Frames -/

theorem commandFrame_panel_of_listens {s : State} (code : Byte) (effect : Panel → Panel) (h : s.panelListens = true) :
    (commandFrame code effect s).panel = effect s.panel := by
  simp [commandFrame, h]

theorem commandFrame_panel_of_deaf {s : State} (code : Byte) (effect : Panel → Panel) (h : s.panelListens = false) :
    (commandFrame code effect s).panel = s.panel.forget := by
  simp [commandFrame, h]

theorem dataFrame_panel_of_listens {s : State} (b : Byte) (h : s.panelListens = true) :
    (dataFrame b s).panel = s.panel.takeData b := by
  simp [dataFrame, State.panelTakesData_of_listens h]

end Sys2Proof.Machine
end

