-- ==== Sys2Proof/Laws/PerInstr.lean ====
section
/-! SUPPORT. Laws/PerInstr.lean: per constructor of Instr, the encoder agrees with the row of spec/opcode_table.json: the
word of the instruction has the row's fixed bits. -/

namespace Sys2Proof.Laws

/-- The bits of an encoding as a number. -/
def wordOf : Encoded → Nat
  | .hrw w => w.toNat
  | .wf f => f.toNat

/-- The fixed bits of an instruction's table row: which they are, and their values. -/
structure Row where
  mask : Nat
  value : Nat
  deriving DecidableEq, Repr

/-- The rows of spec/opcode_table.json, transcribed. -/
def row : Instr → Row
  | .init _ => ⟨0xFFFF00FF, 0x00000001⟩
  | .reset => ⟨0xFFFFFFFF, 0x00000002⟩
  | .sendCmd _ => ⟨0xFFFF00FF, 0x00000003⟩
  | .sendData _ => ⟨0xFFFF00FF, 0x00000004⟩
  | .waitIdle => ⟨0xFFFFFFFF, 0x00000005⟩
  | .clear => ⟨0xFFFFFFFF, 0x00000006⟩
  | .frameH => ⟨0xFFFFFFFF, 0x00000007⟩
  | .frameV => ⟨0xFFFFFFFF, 0x00000008⟩
  | .displaySleep => ⟨0xFFFFFFFF, 0x00000009⟩
  | .psr => ⟨0x1FF, 0x000⟩
  | .pwr => ⟨0x1FF, 0x001⟩
  | .pof => ⟨0x1FF, 0x002⟩
  | .pfs => ⟨0x1FF, 0x003⟩
  | .pon => ⟨0x1FF, 0x004⟩
  | .btst => ⟨0x1FF, 0x006⟩
  | .dslp => ⟨0x1FF, 0x007⟩
  | .dtm => ⟨0x1FF, 0x010⟩
  | .drf => ⟨0x1FF, 0x012⟩
  | .pll => ⟨0x1FF, 0x030⟩
  | .tse => ⟨0x1FF, 0x041⟩
  | .cdi => ⟨0x1FF, 0x050⟩
  | .tcon => ⟨0x1FF, 0x060⟩
  | .tres => ⟨0x1FF, 0x061⟩
  | .htotal => ⟨0x1FF, 0x062⟩
  | .gsst => ⟨0x1FF, 0x065⟩
  | .ccset => ⟨0x1FF, 0x0E0⟩
  | .pws => ⟨0x1FF, 0x0E3⟩
  | .msCtrl => ⟨0x1FF, 0x0EE⟩
  | .vendorE9 => ⟨0x1FF, 0x0E9⟩

/-- The encoding has the fixed bits of the table row (30_encoding.md R112, R120). -/
def TableRow.Statement (i : Instr) : Prop := wordOf (encode i) &&& (row i).mask = (row i).value

theorem TableRow.init : ∀ arg, TableRow.Statement (.init arg) := by
  unfold TableRow.Statement
  decide

theorem TableRow.reset : TableRow.Statement .reset := by
  unfold TableRow.Statement
  decide

theorem TableRow.sendCmd : ∀ arg, TableRow.Statement (.sendCmd arg) := by
  unfold TableRow.Statement
  decide

theorem TableRow.sendData : ∀ arg, TableRow.Statement (.sendData arg) := by
  unfold TableRow.Statement
  decide

theorem TableRow.waitIdle : TableRow.Statement .waitIdle := by
  unfold TableRow.Statement
  decide

theorem TableRow.clear : TableRow.Statement .clear := by
  unfold TableRow.Statement
  decide

theorem TableRow.frameH : TableRow.Statement .frameH := by
  unfold TableRow.Statement
  decide

theorem TableRow.frameV : TableRow.Statement .frameV := by
  unfold TableRow.Statement
  decide

theorem TableRow.displaySleep : TableRow.Statement .displaySleep := by
  unfold TableRow.Statement
  decide

theorem TableRow.psr : TableRow.Statement .psr := by
  unfold TableRow.Statement
  decide

theorem TableRow.pwr : TableRow.Statement .pwr := by
  unfold TableRow.Statement
  decide

theorem TableRow.pof : TableRow.Statement .pof := by
  unfold TableRow.Statement
  decide

theorem TableRow.pfs : TableRow.Statement .pfs := by
  unfold TableRow.Statement
  decide

theorem TableRow.pon : TableRow.Statement .pon := by
  unfold TableRow.Statement
  decide

theorem TableRow.btst : TableRow.Statement .btst := by
  unfold TableRow.Statement
  decide

theorem TableRow.dslp : TableRow.Statement .dslp := by
  unfold TableRow.Statement
  decide

theorem TableRow.dtm : TableRow.Statement .dtm := by
  unfold TableRow.Statement
  decide

theorem TableRow.drf : TableRow.Statement .drf := by
  unfold TableRow.Statement
  decide

theorem TableRow.pll : TableRow.Statement .pll := by
  unfold TableRow.Statement
  decide

theorem TableRow.tse : TableRow.Statement .tse := by
  unfold TableRow.Statement
  decide

theorem TableRow.cdi : TableRow.Statement .cdi := by
  unfold TableRow.Statement
  decide

theorem TableRow.tcon : TableRow.Statement .tcon := by
  unfold TableRow.Statement
  decide

theorem TableRow.tres : TableRow.Statement .tres := by
  unfold TableRow.Statement
  decide

theorem TableRow.htotal : TableRow.Statement .htotal := by
  unfold TableRow.Statement
  decide

theorem TableRow.gsst : TableRow.Statement .gsst := by
  unfold TableRow.Statement
  decide

theorem TableRow.ccset : TableRow.Statement .ccset := by
  unfold TableRow.Statement
  decide

theorem TableRow.pws : TableRow.Statement .pws := by
  unfold TableRow.Statement
  decide

theorem TableRow.msCtrl : TableRow.Statement .msCtrl := by
  unfold TableRow.Statement
  decide

theorem TableRow.vendorE9 : TableRow.Statement .vendorE9 := by
  unfold TableRow.Statement
  decide

end Sys2Proof.Laws
end

