-- ==== Sys2Proof/Tests/Slice0.lean ====
section
/-! SUPPORT. Tests/Slice0.lean: small tests, whose expected values are written out in spec/ (95_test_vectors.md, or the
rule a test names), and a witness for the hypotheses of each statement. -/

namespace Sys2Proof.Tests
open Sys2Proof.Machine

/-! ### States to test on -/

/-- An INIT_ROM that meets 10_state.md R55 and R56. -/
def pieces : RomPieces where
  cascade := [0x01]
  temperature := [0x08]
  border := [0x77]
  resolution := (0x01, 0x02, 0x03, 0x04)
  gsstLen := 2
  horizontal := (0x05, 0x06)
  extras := []

def params : Params where
  psrLen := 1
  psrTable := { left := ⟨[0x0F], [0x03]⟩, right := ⟨[0x1F], [0x13]⟩, up := ⟨[0x2F], [0x23]⟩, down := ⟨[0x3F], [0x33]⟩ }
  initRom := pieces.rom 1
  vselUpA := .slave
  pitch := 198
  halfBOffset := 98

/-- Reset, with parameters and pins that have values. -/
def fresh : State := { State.reset with params := params, rst := .high, dc := .high }

def statusOf (p : PState) (o : Orientation) : Status := { Status.reset with pstate := p, tsetupOk := true, orient := some o }

/-- An idle engine in a PSTATE and an orientation, its panel awake as a reset pulse leaves it. -/
def idle (p : PState) (o : Orientation) : State :=
  { fresh with status := statusOf p o, panel := Panel.unknown false false false }

/-- The same with BUSY answers determined. -/
def answering (p : PState) (o : Orientation) (limit : BitVec 16) (answers : List Level) : State :=
  { idle p o with waitLimit := limit, busyAnswers := answers }

/-- An operation of the host just accepted. -/
def running (op : Op) (arg : Byte) (s : State) : State := s.accept op arg

/-- The host acts next. -/
def withInput (a : HostAction) (s : State) : State := { s with inputs := [a] }

/-- What a test looks at in the state after one step. -/
def after {α : Type} (f : State → α) (s : State) : Option α :=
  match step s with
  | .next t => some (f t)
  | .fault _ => none
  | .refused _ => none

/-- STATUS after the host has written a word to CMD. -/
def statusAfter (w : Word) (s : State) : Option Nat := after (fun t => t.status.word.toNat) (withInput (.write 0 32 w) s)

/-- What `rd offset` returns. -/
def readBack (offset : Nat) (s : State) : Option Nat := after (fun t => t.hostRead.toNat) (withInput (.read offset 32) s)

/-! ### Well-formedness (30_encoding.md R113) -/

theorem test_init_0_is_ill_formed : (Instr.init 0).wellFormed = false := by decide

theorem test_init_5_is_ill_formed : (Instr.init 5).wellFormed = false := by decide

theorem test_init_1_and_4_are_well_formed : (Instr.init 1).wellFormed && (Instr.init 4).wellFormed = true := by decide

theorem test_setup_keeps_the_spec : params.WellFormed := by
  refine ⟨fun o => ?_, ⟨pieces, rfl⟩, rfl, rfl⟩
  cases o <;> exact ⟨rfl, rfl⟩

/-! ### Decode: words from 30_encoding.md R120, R126 and spec/opcode_table.json -/

theorem test_decode_init : decodeTableWord 32 0b00000000000000000000000100000001 = some (.init 1) := by decide

theorem test_decode_reset : decodeTableWord 32 0b00000000000000000000000000000010 = some .reset := by decide

theorem test_decode_sendCmd : decodeTableWord 32 0b00000000000000000001001000000011 = some (.sendCmd 0x12) := by decide

theorem test_decode_sendData : decodeTableWord 32 0b00000000000000001010010100000100 = some (.sendData 0xA5) := by decide

theorem test_decode_waitIdle : decodeTableWord 32 0b00000000000000000000000000000101 = some .waitIdle := by decide

theorem test_decode_clear : decodeTableWord 32 0b00000000000000000000000000000110 = some .clear := by decide

theorem test_decode_frameH : decodeTableWord 32 0b00000000000000000000000000000111 = some .frameH := by decide

theorem test_decode_frameV : decodeTableWord 32 0b00000000000000000000000000001000 = some .frameV := by decide

theorem test_decode_displaySleep : decodeTableWord 32 0b00000000000000000000000000001001 = some .displaySleep := by decide

theorem test_decode_psr_to_pon : [0b000000000, 0b000000001, 0b000000010, 0b000000011, 0b000000100].map
    (decodeTableWord 16) = [some .psr, some .pwr, some .pof, some .pfs, some .pon] := by decide

theorem test_decode_btst_to_pll : [0b000000110, 0b000000111, 0b000010000, 0b000010010, 0b000110000].map
    (decodeTableWord 16) = [some .btst, some .dslp, some .dtm, some .drf, some .pll] := by decide

theorem test_decode_tse_to_htotal : [0b001000001, 0b001010000, 0b001100000, 0b001100001, 0b001100010].map
    (decodeTableWord 16) = [some .tse, some .cdi, some .tcon, some .tres, some .htotal] := by decide

theorem test_decode_gsst_to_vendor : [0b001100101, 0b011100000, 0b011100011, 0b011101110, 0b011101001].map
    (decodeTableWord 16) = [some .gsst, some .ccset, some .pws, some .msCtrl, some .vendorE9] := by decide

/-- 95_test_vectors.md 2.5: the illegal words. -/
theorem test_decode_refuses_illegal_words :
    [0x00000000, 0x0000000A, 0x0000000F, 0x00000016, 0x80000005, 0x00000107].map (decodeTableWord 32) =
      [none, none, none, none, none, none] := by decide

/-- 30_encoding.md R119, R122: a data frame and an unlisted command byte name no instruction. -/
theorem test_decode_refuses_other_frames :
    decodeFrame 0b100010000 = .error .dataFrame ∧ decodeFrame 0b000000101 = .error .unlistedCommand := by decide

theorem test_decode_names_why : decodeRequest 0x00000016 = .error .reservedBits ∧
    decodeRequest 0x0000000A = .error .reservedOp ∧ decodeRequest 0x00000107 = .error .operandNotZero ∧
    decodeBytes [0x01, 0x02, 0x03] = .error .notAFormat := by decide

/-! ### Codec and partitioner: 95_test_vectors.md 2.1 and 2.2 -/

theorem test_codec : [0x00, 0xFF, 0x1B, 0xE4, 0x55, 0xAA, 0x01, 0x40, 0x80, 0xC0, 0x3F, 0x0F].map encByte =
    [0x55, 0x00, 0x6C, 0x39, 0xAA, 0xFF, 0x56, 0x95, 0xD5, 0x15, 0x40, 0x50] := by decide

theorem test_codec_back : [0x55, 0x00, 0xAA, 0xFF].map decByte = [0x00, 0xFF, 0x55, 0xAA] := by decide

theorem test_offH : [offH params .a 0 98, offH params .a 1 0, offH params .a 271 99, offH params .b 0 0,
    offH params .b 1 1, offH params .b 271 99] = [98, 198, 53757, 98, 297, 53855] := by decide

theorem test_offV : [offV params .a 0 98, offV params .a 1 1, offV params .a 271 99, offV params .b 0 0,
    offV params .b 1 1, offV params .b 271 99] = [26656, 273, 27199, 26656, 26929, 53855] := by decide

theorem test_selectors : [Orientation.left, .right, .up, .down].map (fun o => (selector params o .a, selector params o .b)) =
    [(0x06, 0x05), (0x05, 0x06), (0x06, 0x05), (0x05, 0x06)] := by decide

/-! ### Requests: 95_test_vectors.md 2.5 -/

theorem test_illegal_words_give_errOp :
    [0x00000000, 0x0000000A, 0x0000000F, 0x00000016, 0x80000005, 0x00000107].map
      (fun w => statusAfter w (idle .ready .left)) = List.replicate 6 (some 0x634) := by decide

theorem test_bad_orientation_gives_errOrient :
    [0x00000001, 0x00000501, 0x0000FF01].map (fun w => statusAfter w (idle .ready .left)) =
      List.replicate 3 (some 0x234) := by decide

theorem test_wrong_variant_gives_errVariant : statusAfter 0x00000008 (idle .ready .left) = some 0x834 := by decide

theorem test_frame_past_the_top_gives_errRange :
    statusAfter 0x00000007 { idle .ready .left with fbBase := 0xFFFF2DA1 } = some 0x734 := by decide

theorem test_frame_up_to_the_top_is_accepted :
    statusAfter 0x00000007 { idle .ready .left with fbBase := 0xFFFF2DA0 } = some 0xF35 := by decide

theorem test_asleep_refuses_bytes : statusAfter 0x00001203 (idle .deepSleep .left) = some 0x43C ∧
    statusAfter 0x00000007 (idle .deepSleep .up) = some 0x47C := by decide

theorem test_asleep_accepts_waitIdle : statusAfter 0x00000005 (idle .deepSleep .left) = some 0xF3D := by decide

theorem test_no_setup_comes_first : [0x00000006, 0x00000008, 0x00000108].map (fun w => statusAfter w fresh) =
    [some 0x300, some 0x300, some 0x600] := by decide

/-- 95_test_vectors.md P5. -/
theorem test_overrun_sets_ovr : statusAfter 0x00000006 (running .clear 0 (idle .ready .left)) = some 0x1F35 ∧
    statusAfter 0x00000000 (running .clear 0 (idle .ready .left)) = some 0x1F35 := by decide

/-! ### Register window: 95_test_vectors.md 2.6 -/

theorem test_reset_reads_zero :
    [0x00, 0x04, 0x08, 0x0C, 0x10, 0x14, 0x18, 0x1C].map (fun o => readBack o fresh) = List.replicate 8 (some 0) := by decide

theorem test_waitLimit_keeps_16_bits :
    after (fun t => (registerValue 0x0C t).toNat) (withInput (.write 0x0C 32 0xABCD1234) fresh) = some 0x1234 := by decide

theorem test_fbBase_reads_back :
    after (fun t => (registerValue 0x08 t).toNat) (withInput (.write 0x08 32 0x12345678) fresh) = some 0x12345678 := by
  decide

theorem test_status_write_clears_only_ovr : after (fun t => t.status.word.toNat) (withInput (.write 0x04 32 0xFFFFFFFF)
    { idle .ready .left with status := { statusOf .ready .left with ovr := true } }) = some 0x34 := by decide

theorem test_narrow_access_is_refused :
    step (withInput (.write 0x04 8 0x10) fresh) = .refused (.registerAccess 0x04 8) := by rfl

/-! ### Events -/

/-- 43_protocol_primitives.md R201: DC first, then the byte. -/
theorem test_sendCmd_writes_dc_first : after State.trace (running .sendCmd 0x10 (idle .ready .left)) =
    some [.pinWrite .dc .low] := by decide

theorem test_sendData_writes_dc_high : after State.dc (running .sendData 0x00 (idle .ready .left)) = some .high := by decide

/-- 44_protocol_operations.md R231: Setup selects the pair of the orientation and writes TSETUP_OK and ORIENT. -/
theorem test_init_setup_ok : after (fun t => (t.trace, t.seq.psrM, t.status.word.toNat))
    { running .init 0x03 fresh with setupAnswers := [true] } = some ([.setup true], [0x2F], 0xF71) := by decide

/-- 95_test_vectors.md 2.4: INIT, Setup fail. -/
theorem test_init_setup_fail : after (fun t => t.status.word.toNat)
    { running .init 0x01 fresh with setupAnswers := [false] } = some 0x100 := by decide

/-- 43_protocol_primitives.md R209. -/
theorem test_reset_pulse_unconfigures : after (fun t => (t.trace, t.status.word.toNat))
    (running .reset 0 (idle .deepSleep .left)) = some ([.pinWrite .rst .low], 0xF31) := by decide

/-- 95_test_vectors.md 2.3: STATUS in the wait of P3 reads 0x00000F73. -/
theorem test_wait_sets_busyWait : after (fun t => t.status.word.toNat)
    { running .waitIdle 0 (idle .unconfigured .up) with busyAnswers := [.low] } = some 0xF73 := by decide

/-- 42_frame_partitioner.md R180, 95_test_vectors.md 2.4: half B's first read of FRAME_H is offset 98. -/
theorem test_frameH_half_b_reads_98 : after (fun t => (t.trace, t.seq.v))
    { running .frameH 0 { idle .ready .left with memory := [(98, 0xE4)] } with
      seq := { (running .frameH 0 (idle .ready .left)).seq with item := 7 } } = some ([.fbRead 98], 0xE4) := by decide

/-- 44_protocol_operations.md R239: the second byte of half A is one row of 272 bytes on. -/
theorem test_frameV_second_byte_reads_272 : after State.trace
    { running .frameV 0 (idle .ready .up) with
      seq := { (running .frameV 0 (idle .ready .up)).seq with item := 3, j := 1 } } = some [.fbRead 272] := by decide

/-- 44_protocol_operations.md R241: DISPLAY_SLEEP leaves DEEP_SLEEP only at its end. -/
theorem test_displaySleep_end : after (fun t => t.status.word.toNat)
    { running .displaySleep 0 (idle .ready .left) with
      seq := { (running .displaySleep 0 (idle .ready .left)).seq with item := 13 } } = some 0x3C := by decide

/-- 45_panel_command_set.md: each wire command sends its code. -/
theorem test_wire_codes : Expect.wireCodes.map (fun p => match exec p.1 (idle .ready .left) with
    | .next t => t.trace == [Event.spi p.2]
    | .fault _ => false
    | .refused _ => false) = List.replicate 20 true := by decide

theorem test_ms_ctrl_waits_for_its_payload : (match exec .msCtrl (idle .ready .left) with
    | .next t => (dataFrame 0x06 t).panel.select
    | .fault _ => .unknown
    | .refused _ => .unknown) = .slave := by decide

/-- 20_memory.md R104 (a), 60_exceptions.md R340: PON under a select of the slave is the slave's alone. -/
theorem test_pon_goes_to_the_selected_controller : (match exec .pon (dataFrame 0x06
      (commandFrame 0xEE Panel.awaitSelector (idle .ready .left))) with
    | .next t => (t.panel.master.power, t.panel.slave.power)
    | .fault _ => (.unknown, .unknown)
    | .refused _ => (.unknown, .unknown)) = (.unknown, .on) := by decide

/-- 93_implementation_defined.md 10: after a select payload outside 30_encoding.md R121 nothing is known. -/
theorem test_unlisted_payload_forgets : (dataFrame 0x07 { idle .ready .left with
      panel := { Panel.unknown false false false with stream := .selector, master := { ControllerRecord.unknown false with
        mem := [(0, 0x6C)], power := .on } } }).panel = Panel.unknown false false false := by decide

/-- 95_test_vectors.md P1: frame memory is still known after DSLP and its 0xA5, and 93_implementation_defined.md 16: not after
the next byte. -/
theorem test_bytes_after_a_dslp_are_any_value : (match exec .dslp { idle .ready .left with
      panel := { Panel.unknown false false false with select := .both, slave := { ControllerRecord.unknown false with
        mem := [(0, 0x6C)] } } } with
    | .next t => ((dataFrame 0xA5 t).panel.slave.mem, (dataFrame 0x00 (dataFrame 0xA5 t)).panel.slave.mem)
    | .fault _ => ([], [])
    | .refused _ => ([], [])) = ([(0, 0x6C)], []) := by decide

/-- 70_reset_and_hazards.md R366: an INIT that times out is remembered until an INIT pulses RST again. -/
theorem test_init_timeout_is_remembered : after (fun t => (t.panel.initMissed, t.status.word.toNat))
    { running .init 0x03 { idle .unconfigured .up with waitLimit := 1, busyAnswers := [.low] } with
      seq := { (running .init 0x03 { idle .unconfigured .up with waitLimit := 1 }).seq with
        item := 5, beat := .again, w := 1 } } = some (true, 0x570) := by decide

/-- 20_memory.md R84: no copy of a frame-buffer byte is left when the operation ends. -/
theorem test_frame_end_keeps_no_byte : after (fun t => (t.status.active, t.seq.v))
    { running .frameH 0 (idle .ready .left) with
      seq := { (running .frameH 0 (idle .ready .left)).seq with item := 8, v := 0x55 } } = some (false, 0) := by decide

/-- 30_encoding.md R125, R126: `init left` is `wr CMD, 0x00000101` and `sync`. -/
theorem test_assemble_init : assemble (.op (.init 1)) = [.write 0 32 0x00000101, .sync] := by decide

/-! ### The host's two questions -/

theorem test_withFetchWord_request :
    after (fun t => (t.status.active, t.seq.opl)) (State.reset.withFetchWord 32 0x00000101) = some (true, .init) := by decide

theorem test_withFetchWord_frame :
    after (fun t => t.trace) (State.reset.withFetchWord 16 0x0EE) = some [.spi 0xEE, .pinWrite .dc .low] := by decide

/-! ### Witnesses: states and operands that meet the hypotheses of the statements, by the statement's name -/

theorem witness_EncodeOfDecodeIsTheWord :
    decode (.hrw 0x0000FF01) = .ok (.init 0xFF) ∧ decode (.wf 0x0E9) = .ok .vendorE9 := by decide

/-- One word per clause of 30_encoding.md R118, at its boundary, and words next to them that are legal. -/
theorem witness_IllegalWordRejected :
    (withInput (.write 0 32 0x0000000A) fresh).inputs = .write 0 32 0x0000000A :: [] ∧
    (withInput (.write 0 32 0x0000000A) fresh).status.active = false ∧
    illegalWord 0x00000000 ∧ illegalWord 0x0000000A ∧ illegalWord 0x00000015 ∧ illegalWord 0x00010005 ∧
    illegalWord 0x00000105 ∧ ¬ illegalWord 0x00000009 ∧ ¬ illegalWord 0x0000FF01 := by
  refine ⟨rfl, rfl, ?_, ?_, ?_, ?_, ?_, ?_, ?_⟩ <;> unfold illegalWord <;> decide

theorem witness_StepRunsTheWrittenRequest :
    (withInput (.write 0 32 0x00000006) fresh).inputs = .write 0 32 0x00000006 :: [] ∧
    decodeRequest 0x00000006 = .ok .clear := by decide

/-- The engine is about to send a command byte: its DC write is done. -/
def framedCommand (b : Byte) : State :=
  { running .sendCmd b (idle .ready .left) with
    seq := { (running .sendCmd b (idle .ready .left)).seq with beat := .framed }
    dc := .low, trace := [.pinWrite .dc .low] }

/-- INIT is about to send the byte of INIT_ROM's first entry, CCSET. -/
def framedEntry : State :=
  { running .init 0x01 (idle .unconfigured .left) with
    seq := { (running .init 0x01 (idle .unconfigured .left)).seq with item := 6, beat := .framed }
    dc := .low, trace := [.pinWrite .dc .low] }

theorem witness_StepRunsTheWireCommand :
    (framedCommand 0x10).inputs = [] ∧ (framedCommand 0x10).status.active = true ∧
    (framedCommand 0x10).seq.beat = .framed ∧ (framedCommand 0x10).dc = .low ∧
    decodeFrame (wireFrame false 0x10) = .ok .dtm ∧
    (program (framedCommand 0x10))[(framedCommand 0x10).seq.item]? = some (.cmd 0x10) := by decide

theorem witness_StepRunsTheWireCommand_rom :
    framedEntry.inputs = [] ∧ framedEntry.status.active = true ∧ framedEntry.seq.beat = .framed ∧
    framedEntry.dc = .low ∧ decodeFrame (wireFrame false 0xE0) = .ok .ccset ∧
    (program framedEntry)[framedEntry.seq.item]? = some .rom ∧
    framedEntry.params.initRom[framedEntry.seq.k]? = some (.cmd 0xE0) ∧
    romFrame (.cmd 0xE0) framedEntry = some (.low, 0xE0) := by decide

theorem witness_PlacedWordRuns :
    decodeTableWord 32 0x00000401 = some (.init 4) ∧ decodeTableWord 16 0x0EE = some .msCtrl := by decide

theorem witness_SendCommandFramesOneByte :
    (running .sendCmd 0xFF (idle .ready .left)).inputs = [] ∧
    (running .sendCmd 0xFF (idle .ready .left)).status.active = true ∧
    (program (running .sendCmd 0xFF (idle .ready .left)))[(running .sendCmd 0xFF (idle .ready .left)).seq.item]? =
      some (.cmd 0xFF) ∧
    (running .sendCmd 0xFF (idle .ready .left)).seq.beat = .start := by decide

theorem witness_SendDataFramesOneByte :
    (running .sendData 0xFF (idle .ready .left)).inputs = [] ∧
    (running .sendData 0xFF (idle .ready .left)).status.active = true ∧
    (program (running .sendData 0xFF (idle .ready .left)))[(running .sendData 0xFF (idle .ready .left)).seq.item]? =
      some (.data 0xFF) ∧
    (running .sendData 0xFF (idle .ready .left)).seq.beat = .start := by decide

theorem witness_WireCommandSendsItsCode :
    (Instr.psr, (0x00 : Byte)) ∈ Expect.wireCodes ∧ (Instr.vendorE9, (0xE9 : Byte)) ∈ Expect.wireCodes := by decide

/-- The lowest and the highest offset, and one per clause. -/
theorem witness_RegisterReadReturnsTheRegister :
    [0x00, 0x04, 0x08, 0x0C, 0x10, 0x14, 0x1C].map (fun o => (readBack o { idle .ready .left with
      fbBase := 5, waitLimit := 0xFFFF, polls := 7 }, decide (o % 4 = 0 ∧ o < 32))) =
    [(some 0, true), (some 0x34, true), (some 5, true), (some 0xFFFF, true), (some 7, true), (some 0, true),
      (some 0, true)] := by decide

theorem witness_StatusWriteClearsOnlyOverrun :
    (withInput (.write 0x04 32 0xFFFFFFFF) (idle .ready .left)).inputs = .write 0x04 32 0xFFFFFFFF :: [] := by decide

theorem witness_OperandRegisterWrites :
    (withInput (.write 0x08 32 1) (running .frameH 0 (idle .ready .left))).inputs = .write 0x08 32 1 :: [] ∧
    (withInput (.write 0x0C 32 0x10000) fresh).inputs = .write 0x0C 32 0x10000 :: [] := by decide

theorem witness_ReservedOffsetWritesIgnored :
    [0x10, 0x14, 0x18, 0x1C].map (fun o => (withInput (.write o 32 5) fresh).inputs) =
      [[.write 0x10 32 5], [.write 0x14 32 5], [.write 0x18 32 5], [.write 0x1C 32 5]] := by decide

theorem witness_AccessOutsideTheInterfaceRefused :
    step (withInput (.write 0x00 16 1) fresh) = .refused (.registerAccess 0x00 16) ∧
    step (withInput (.read 0x02 32) fresh) = .refused (.registerAccess 0x02 32) := ⟨rfl, rfl⟩

theorem witness_EngineResetZeroesTheRegisters :
    (withInput .engineReset (running .clear 0 (idle .ready .left))).inputs = .engineReset :: [] := by decide

theorem witness_OverrunDropsTheRequest :
    (withInput (.write 0 32 0x00000006) (running .clear 0 (idle .ready .left))).inputs = .write 0 32 0x00000006 :: [] ∧
    (withInput (.write 0 32 0x00000006) (running .clear 0 (idle .ready .left))).status.active = true := by decide

theorem witness_InvalidOrientationRejected :
    fresh.status.active = false ∧ (0x00 : Byte).toNat = 0 ∧ 5 ≤ (0x05 : Byte).toNat := by decide

theorem witness_NoSetupRejected :
    needsSetup .waitIdle ∧ fresh.status.active = false ∧ fresh.status.tsetupOk = false := ⟨trivial, rfl, rfl⟩

theorem witness_DeepSleepGating :
    (idle .deepSleep .up).status.active = false ∧ (idle .deepSleep .up).status.tsetupOk = true ∧
    (idle .deepSleep .up).status.pstate = .deepSleep ∧ writesBus .frameH ∧ 1 ≤ (0x01 : Byte).toNat ∧
    (0x04 : Byte).toNat ≤ 4 := ⟨rfl, rfl, rfl, trivial, by decide, by decide⟩

theorem witness_WrongVariantRejected :
    (idle .ready .up).status.active = false ∧ (idle .ready .up).status.tsetupOk = true ∧
    (idle .ready .up).status.pstate ≠ .deepSleep ∧ (idle .ready .up).status.orient ≠ some .left ∧
    (idle .ready .up).status.orient ≠ some .right ∧ (idle .ready .left).status.orient ≠ some .up ∧
    (idle .ready .left).status.orient ≠ some .down := by decide

/-- The two bases on both sides of the bound (95_test_vectors.md 2.5). -/
theorem witness_RangeCheckIsExact :
    (idle .ready .left).status.active = false ∧ (idle .ready .left).status.tsetupOk = true ∧
    (idle .ready .left).status.pstate ≠ .deepSleep ∧ (idle .ready .left).params.specGeometry ∧
    (idle .ready .left).status.orient = some .left ∧ (idle .ready .down).status.orient = some .down ∧
    2 ^ 32 - 53856 < (0xFFFF2DA1 : Word).toNat ∧ (0xFFFF2DA0 : Word).toNat ≤ 2 ^ 32 - 53856 :=
  ⟨rfl, rfl, by decide, ⟨rfl, rfl⟩, rfl, rfl, by decide, by decide⟩

/-- A wait that has just been reached, WLL = 3. -/
def waiting (answers : List Level) : State := running .waitIdle 0 (answering .ready .left 3 answers)

theorem witness_WaitPollsUntilIdle :
    (waiting [.low, .low, .low, .high]).inputs = [] ∧ (waiting [.low, .low, .low, .high]).status.active = true ∧
    (program (waiting [.low, .low, .low, .high]))[(waiting [.low, .low, .low, .high]).seq.item]? = some .wait ∧
    (waiting [.low, .low, .low, .high]).seq.beat = .start ∧
    (waiting [.low, .low, .low, .high]).busyAnswers = Expect.lowsThenHigh 3 ++ [] ∧
    3 ≤ (waiting [.low, .low, .low, .high]).seq.wll.toNat := by decide

theorem witness_WaitTimesOut :
    (waiting [.low, .low, .low, .low]).inputs = [] ∧ (waiting [.low, .low, .low, .low]).status.active = true ∧
    (program (waiting [.low, .low, .low, .low]))[(waiting [.low, .low, .low, .low]).seq.item]? = some .wait ∧
    (waiting [.low, .low, .low, .low]).seq.beat = .start ∧ (waiting [.low, .low, .low, .low]).seq.wll ≠ 0 ∧
    (waiting [.low, .low, .low, .low]).busyAnswers =
      List.replicate ((waiting [.low, .low, .low, .low]).seq.wll.toNat + 1) .low ++ [] := by decide

/-- Of SendCmdRuns, SendDataRuns and ClearRuns. -/
theorem witness_SendCmdRuns : Idle (idle .ready .left) ∧ (idle .ready .left).status.tsetupOk = true ∧
    (idle .ready .left).status.pstate ≠ .deepSleep := ⟨⟨rfl, rfl⟩, rfl, by decide⟩

/-- Of WaitIdleRuns and ResetRuns: in DEEP_SLEEP, with as many Low answers as the limit. -/
theorem witness_WaitIdleRuns :
    Idle (answering .deepSleep .left 2 [.low, .low, .high]) ∧
    (answering .deepSleep .left 2 [.low, .low, .high]).status.tsetupOk = true ∧
    (answering .deepSleep .left 2 [.low, .low, .high]).busyAnswers = Expect.lowsThenHigh 2 ++ [] ∧
    2 ≤ (answering .deepSleep .left 2 [.low, .low, .high]).waitLimit.toNat :=
  ⟨⟨rfl, rfl⟩, rfl, rfl, by decide⟩

theorem witness_InitRuns :
    Idle { answering .deepSleep .left 0 [.high] with setupAnswers := [true] } ∧
    orientationOf 0x03 = some .up ∧ (answering .deepSleep .left 0 [.high]).params.WellFormed ∧
    { answering .deepSleep .left 0 [.high] with setupAnswers := [true] }.setupAnswers = true :: [] ∧
    (answering .deepSleep .left 0 [.high]).busyAnswers = Expect.lowsThenHigh 0 ++ [] ∧
    (answering .deepSleep .left 0 [.high]).waitLimit = 0 :=
  ⟨⟨rfl, rfl⟩, by decide, test_setup_keeps_the_spec, rfl, rfl, rfl⟩

theorem witness_InitSetupFailure : Idle { fresh with setupAnswers := [false] } ∧ orientationOf 0x01 ≠ none ∧
    { fresh with setupAnswers := [false] }.setupAnswers = false :: [] := ⟨⟨rfl, rfl⟩, by decide, rfl⟩

/-- The buffer ends at 2^32 - 1. -/
theorem witness_FrameHRuns : Idle { idle .ready .right with fbBase := 0xFFFF2DA0 } ∧
    (idle .ready .right).status.tsetupOk = true ∧ (idle .ready .right).status.pstate ≠ .deepSleep ∧
    (idle .ready .right).status.orient = some .right ∧ (idle .ready .right).params.specGeometry ∧
    (0xFFFF2DA0 : Word).toNat + 53855 < 2 ^ 32 := ⟨⟨rfl, rfl⟩, rfl, by decide, rfl, ⟨rfl, rfl⟩, by decide⟩

theorem witness_FrameHRuns_left : Idle { idle .ready .left with fbBase := 0xFFFF2DA0 } ∧
    (idle .ready .left).status.tsetupOk = true ∧ (idle .ready .left).status.pstate ≠ .deepSleep ∧
    (idle .ready .left).status.orient = some .left ∧ (idle .ready .left).params.specGeometry ∧
    (0xFFFF2DA0 : Word).toNat + 53855 < 2 ^ 32 := ⟨⟨rfl, rfl⟩, rfl, by decide, rfl, ⟨rfl, rfl⟩, by decide⟩

theorem witness_FrameVRuns : Idle { idle .ready .down with fbBase := 0xFFFF2DA0 } ∧
    (idle .ready .down).status.tsetupOk = true ∧ (idle .ready .down).status.pstate ≠ .deepSleep ∧
    (idle .ready .down).status.orient = some .down ∧ (idle .ready .down).params.specGeometry ∧
    (0xFFFF2DA0 : Word).toNat + 53855 < 2 ^ 32 := ⟨⟨rfl, rfl⟩, rfl, by decide, rfl, ⟨rfl, rfl⟩, by decide⟩

theorem witness_FrameVRuns_up : Idle { idle .ready .up with fbBase := 0xFFFF2DA0 } ∧
    (idle .ready .up).status.tsetupOk = true ∧ (idle .ready .up).status.pstate ≠ .deepSleep ∧
    (idle .ready .up).status.orient = some .up ∧ (idle .ready .up).params.specGeometry ∧
    (0xFFFF2DA0 : Word).toNat + 53855 < 2 ^ 32 := ⟨⟨rfl, rfl⟩, rfl, by decide, rfl, ⟨rfl, rfl⟩, by decide⟩

/-- The answers of 95_test_vectors.md 2.4: N1 = 1, N2 = 0, N3 = 2. -/
theorem witness_DisplaySleepRuns :
    Idle (answering .ready .left 2 [.low, .high, .high, .low, .low, .high]) ∧
    (answering .ready .left 2 [.low, .high, .high, .low, .low, .high]).busyAnswers =
      Expect.lowsThenHigh 1 ++ Expect.lowsThenHigh 0 ++ Expect.lowsThenHigh 2 ++ [] ∧
    (answering .ready .left 2 [.low, .high, .high, .low, .low, .high]).status.tsetupOk = true ∧
    (answering .ready .left 2 [.low, .high, .high, .low, .low, .high]).status.pstate ≠ .deepSleep ∧
    2 ≤ (answering .ready .left 2 [.low, .high, .high, .low, .low, .high]).waitLimit.toNat :=
  ⟨⟨rfl, rfl⟩, rfl, rfl, by decide, by decide⟩

theorem witness_DisplaySleepTimesOut :
    Idle (answering .ready .left 2 [.low, .low, .low]) ∧
    (answering .ready .left 2 [.low, .low, .low]).status.tsetupOk = true ∧
    (answering .ready .left 2 [.low, .low, .low]).status.pstate ≠ .deepSleep ∧
    (answering .ready .left 2 [.low, .low, .low]).waitLimit ≠ 0 ∧
    (answering .ready .left 2 [.low, .low, .low]).busyAnswers =
      List.replicate ((answering .ready .left 2 [.low, .low, .low]).waitLimit.toNat + 1) .low ++ [] :=
  ⟨⟨rfl, rfl⟩, rfl, by decide, by decide, rfl⟩

theorem witness_EncByteIsLaneWiseBijection : lane 0 (encByte 0xC0) = 0b00 ∧ lane 3 (encByte 0xC0) = 0b01 := by decide

/-- Of SourceOffsets, SeamBytesAgree and PartitionCoversTheBuffer: the geometry, the last position, and a pair of seam
positions. -/
theorem witness_PartitionCoversTheBuffer : params.specGeometry ∧ sourceOffset .row params .b 271 99 = 53855 ∧
    sourceOffset .column params .a 271 99 = sourceOffset .column params .b 271 1 ∧
    (Half.a, 271, 99) ≠ (Half.b, 271, 1) := ⟨⟨rfl, rfl⟩, by decide, by decide, by decide⟩

theorem witness_HalfSelectors : params.vselUpA = .slave ∧ { params with vselUpA := .master }.vselUpA = .master := by decide

/-- FRAME_H at its first read, of the last buffer of the address space. -/
def reading : State :=
  { running .frameH 0 { idle .ready .left with fbBase := 0xFFFF2DA0 } with
    seq := { (running .frameH 0 { idle .ready .left with fbBase := 0xFFFF2DA0 }).seq with item := 7, b := 271, j := 99 } }

/-- The read is the one at 2^32 - 1. -/
theorem witness_FrameBufferReadReturnsTheHostByte :
    reading.inputs = [] ∧ reading.status.active = true ∧
    (program reading)[reading.seq.item]? = some (.pixels .column .b) ∧ reading.seq.beat = .start ∧
    4294967295 = reading.seq.fbl.toNat + sourceOffset .column reading.params .b reading.seq.b reading.seq.j ∧
    4294967295 < 2 ^ 32 ∧ 4294967295 ∉ reading.raced := by decide

/-- A store into the running buffer. -/
theorem witness_HostStoreWritesOneByte :
    (withInput (.storeByte 0xFFFFFFFF 0x1B) reading).inputs = .storeByte 0xFFFFFFFF 0x1B :: [] ∧
    Memory.wf (withInput (.storeByte 0xFFFFFFFF 0x1B) reading).memory ∧
    after (fun t => (Memory.read t.memory 0xFFFFFFFF, t.raced)) (withInput (.storeByte 0xFFFFFFFF 0x1B) reading) =
      some (0x1B, [0xFFFFFFFF]) := by decide

theorem witness_EngineNeverWritesHostMemory : (∃ t, step reading = .next t) ∧
    (∀ a v rest, reading.inputs ≠ .storeByte a v :: rest) := ⟨⟨_, rfl⟩, by intro a v rest h; cases h⟩

theorem framedCommand_consistent (b : Byte) : Consistent (framedCommand b) := by
  constructor <;>
    simp [framedCommand, running, State.accept, idle, statusOf, fresh, State.reset, Status.reset, Op.busWrite,
      Op.variantOk, Op.isFrame, Config.columnBytes, Config.lineBytes, Config.halfBytes]

/-- Of StepKeepsConsistent, EngineNeverStops, StepKeepsMemoryForm and OneEventPerStep. -/
theorem witness_StepKeepsConsistent : Consistent (framedCommand 0x10) ∧ (framedCommand 0x10).params.WellFormed ∧
    (framedCommand 0x10).inputs = [] ∧ Memory.wf (framedCommand 0x10).memory ∧ ∃ t, step (framedCommand 0x10) = .next t :=
  ⟨framedCommand_consistent _, test_setup_keeps_the_spec, rfl, by decide, _, rfl⟩

theorem witness_StepKeepsFraming : Framed (framedCommand 0x10) ∧ ∃ t, step (framedCommand 0x10) = .next t := by
  refine ⟨⟨?_, fun _ _ => ⟨[], rfl⟩⟩, _, rfl⟩
  intro newer b older h
  rcases newer with _ | ⟨e, _ | ⟨e', rest⟩⟩ <;> simp [framedCommand] at h

theorem witness_IdleEngineHolds : Idle fresh := ⟨rfl, rfl⟩

theorem witness_NoByteIsSentInDeepSleep : Consistent (framedCommand 0x10) ∧
    ∃ t, step (framedCommand 0x10) = .next t ∧ t.trace = .spi 0x10 :: (framedCommand 0x10).trace :=
  ⟨framedCommand_consistent _, _, rfl, rfl⟩

/-- Each clause of the statement: engine reset, Setup fail, RST Low, the end of INIT and the end of DISPLAY_SLEEP. -/
theorem witness_PstateMovesOnlyAsListed :
    after (fun t => t.status.pstate) (withInput .engineReset (idle .ready .left)) = some .unconfigured ∧
    after (fun t => t.trace) { running .init 1 (idle .ready .left) with setupAnswers := [false] } = some [.setup false] ∧
    after (fun t => t.trace) (running .reset 0 (idle .ready .left)) = some [.pinWrite .rst .low] ∧
    after (fun t => (t.status.active, t.status.pstate)) { running .init 1 (idle .unconfigured .left) with
      seq := { (running .init 1 (idle .unconfigured .left)).seq with item := 7 } } = some (false, .ready) ∧
    after (fun t => (t.status.active, t.status.pstate)) { running .displaySleep 0 (idle .ready .left) with
      seq := { (running .displaySleep 0 (idle .ready .left)).seq with item := 13 } } = some (false, .deepSleep) := by decide

theorem witness_OrientChangesOnlyInSetup :
    after (fun t => (t.status.orient, t.trace)) { running .init 4 (idle .ready .left) with setupAnswers := [true] } =
      some (some .down, [.setup true]) ∧
    after (fun t => t.status.orient) (withInput .engineReset (idle .ready .left)) = some none := by decide

/-- The clauses on TSETUP_OK: Setup ok, Setup fail and engine reset. -/
theorem witness_OrientChangesOnlyInSetup_tsetupOk :
    after (fun t => (t.status.tsetupOk, t.trace)) { running .init 1 fresh with setupAnswers := [true] } =
      some (true, [.setup true]) ∧
    after (fun t => (t.status.tsetupOk, t.trace)) { running .init 1 (idle .ready .left) with setupAnswers := [false] } =
      some (false, [.setup false]) ∧
    after (fun t => t.status.tsetupOk) (withInput .engineReset (idle .ready .left)) = some false := by decide

/-- An overrun has happened. -/
def overrun : State := { idle .ready .left with status := { statusOf .ready .left with ovr := true } }

/-- The clauses on OVR: a dropped CMD write, a STATUS write and engine reset. -/
theorem witness_OrientChangesOnlyInSetup_ovr :
    after (fun t => t.status.ovr) (withInput (.write 0 32 0x00000006) (running .clear 0 (idle .ready .left))) = some true ∧
    after (fun t => t.status.ovr) (withInput (.write 0x04 32 0x00001000) overrun) = some false ∧
    after (fun t => t.status.ovr) (withInput .engineReset overrun) = some false := by decide

/-- A wait whose last BUSY read was Low and whose poll delay is over, WLL = 3, after w delays. -/
def polling (w : Nat) (answer : Level) : State :=
  { waiting [answer] with
    status := { (waiting [answer]).status with busyWait := true }
    seq := { (waiting [answer]).seq with beat := .again, w := w } }

theorem polling_consistent (w : Nat) (answer : Level) : Consistent (polling w answer) := by
  constructor <;>
    simp [polling, waiting, answering, program, waitIdleProgram, running, State.accept, idle, statusOf, fresh,
      State.reset, Status.reset, Op.busWrite, Op.variantOk, Op.isFrame, Config.columnBytes, Config.lineBytes,
      Config.halfBytes]

/-- The clauses on BUSYWAIT: a first Low read, a Low read within the limit, one at the limit, a High read, and engine reset. -/
theorem witness_OrientChangesOnlyInSetup_busyWait :
    after (fun t => (t.trace, t.status.active, t.status.busyWait)) (waiting [.low]) = some ([.pinRead .low], true, true) ∧
    after (fun t => (t.trace, t.status.active, t.status.busyWait)) (polling 2 .low) = some ([.pinRead .low], true, true) ∧
    after (fun t => (t.trace, t.status.active, t.status.busyWait)) (polling 3 .low) =
      some ([.pinRead .low], false, false) ∧
    after (fun t => (t.trace, t.status.active, t.status.busyWait)) (polling 3 .high) =
      some ([.pinRead .high], true, false) ∧
    after (fun t => t.status.busyWait) (withInput .engineReset (polling 3 .high)) = some false := by decide

theorem witness_InternalRegistersDoNotLeak : fresh.status.active = false ∧
    sameButInternals fresh { fresh with seq := { fresh.seq with item := 3, v := 0x55 } } := ⟨rfl, rfl⟩

/-- In UNCONFIGURED, as after a RESET. -/
theorem witness_SelectedControllerTakesTheStream :
    (idle .unconfigured .left).panelListens = true ∧ [(0x6C : Byte), 0x39].length ≤ 27200 ∧
    (∃ t w, exec .msCtrl (idle .unconfigured .left) = .next t ∧ exec .dtm (dataFrame 0x06 t) = .next w ∧
      ([0x6C, 0x39].foldl (fun z b => dataFrame b z) w).panel.slave.mem = [(0, 0x6C), (1, 0x39)]) :=
  ⟨rfl, by decide, _, _, rfl, rfl, rfl⟩

/-- A panel of which one controller is selected. -/
def selecting (v : Selection) : State :=
  { idle .ready .left with panel := { Panel.unknown false false false with select := v } }

theorem witness_PanelPowerFollowsTheCommands :
    [Selection.unknown, .both, .master, .slave].map (fun v => ((selecting v).panelListens, (selecting v).panel.select)) =
      [(true, .unknown), (true, .both), (true, .master), (true, .slave)] ∧
    fresh.panelListens = false ∧ (Instr.pon, (0x04 : Byte)) ∈ Expect.wireCodes := by decide

theorem witness_SyncReadsStatusUntilIdle : encode .clear = .hrw 0x00000006 ∧
    (withInput .sync fresh).inputs = .sync :: [] ∧ (withInput .sync fresh).status.active = false ∧
    (withInput .sync (running .clear 0 (idle .ready .left))).status.active = true := by decide

theorem witness_OperatorCommandsExpand : 1 ≤ (0x01 : Byte).toNat ∧ (0x04 : Byte).toNat ≤ 4 := by decide

end Sys2Proof.Tests
end

/-! Proofs of the family 00_scope.md: the engine answers a next state at every line of a program, because the positions that
fault are not reached in a consistent state with well-formed parameters. -/

namespace Sys2Proof

/-! ### INIT_ROM (10_state.md R54) -/

/-- The PSR index of an INIT_ROM entry, where it has one, lies below PSR_LEN (10_state.md R54). -/
def RomEntry.InRange (psrLen : Nat) : RomEntry → Prop
  | .cmd _ | .data _ => True
  | .psrM i | .psrS i => i < psrLen

@[simp] theorem RomEntry.inRange_cmd (n : Nat) (b : Byte) : (RomEntry.cmd b).InRange n := trivial

@[simp] theorem RomEntry.inRange_data (n : Nat) (b : Byte) : (RomEntry.data b).InRange n := trivial

@[simp] theorem RomEntry.inRange_psrM (n i : Nat) : (RomEntry.psrM i).InRange n ↔ i < n := Iff.rfl

@[simp] theorem RomEntry.inRange_psrS (n i : Nat) : (RomEntry.psrS i).InRange n ↔ i < n := Iff.rfl

theorem ExtraCommand.entries_inRange (x : ExtraCommand) (n : Nat) : ∀ e ∈ x.entries, e.InRange n := by
  simp [ExtraCommand.entries]

theorem RomPieces.extra_inRange (q : RomPieces) (slot n : Nat) : ∀ e ∈ q.extra slot, e.InRange n := by
  intro e he
  obtain ⟨x, -, hx⟩ := List.mem_flatMap.mp he
  exact x.entries_inRange n e hx

theorem psrGroup_inRange (sel : Byte) {entry : Nat → RomEntry} {n : Nat} (h : ∀ i < n, (entry i).InRange n) :
    ∀ e ∈ psrGroup sel entry n, e.InRange n := by
  simpa [psrGroup] using h

/-- Every entry of an INIT_ROM of the spec's form names a PSR byte that exists (10_state.md R54). -/
theorem RomPieces.rom_inRange (q : RomPieces) (n : Nat) : ∀ e ∈ q.rom n, e.InRange n := by
  have hx := fun slot => iff_true_intro (q.extra_inRange slot n)
  have hm := iff_true_intro (psrGroup_inRange (Config.selOf .master) (entry := .psrM) (n := n) fun _ hi => hi)
  have hs := iff_true_intro (psrGroup_inRange (Config.selOf .slave) (entry := .psrS) (n := n) fun _ hi => hi)
  simp only [RomPieces.rom, List.forall_mem_append, hx, hm, hs]
  simp

end Sys2Proof

namespace Sys2Proof.Machine

/-- An entry whose index is in range has a frame, where the latched lists are PSR_LEN bytes long. -/
theorem romFrame_isSome {e : RomEntry} {s : State} {n : Nat} (he : e.InRange n) (hM : s.seq.psrM.length = n)
    (hS : s.seq.psrS.length = n) : ∃ f, romFrame e s = some f := by
  subst hM
  cases e with
  | cmd b => exact ⟨_, rfl⟩
  | data b => exact ⟨_, rfl⟩
  | psrM i => exact Option.isSome_iff_exists.mp (by simpa [romFrame] using he)
  | psrS i => exact Option.isSome_iff_exists.mp (by simpa [romFrame, hS] using he)

/-! ### The source buffer (20_memory.md R96) -/

/-- Under the decided geometry the offset of every byte of both halves lies in the source buffer. -/
theorem sourceOffset_lt_fbLen {p : Params} (hg : p.specGeometry) (split : Split) (h : Half) {b j : Nat}
    (hb : b < Config.columnBytes) (hj : j < Config.lineBytes) : sourceOffset split p h b j < p.fbLen := by
  obtain ⟨hp, ho⟩ := hg
  simp only [Config.columnBytes, Config.lineBytes, Config.overlap] at hb hj hp ho
  cases split <;> cases h <;> simp only [sourceOffset, offH, offV, Params.fbLen, Config.columnBytes, hp, ho] <;> omega

/-! ### Lines that can fault, and the operations they belong to -/

theorem opl_init_of_line_setup {s : State} (h : s.line = some .setup) : s.seq.opl = .init := by
  rcases line_cases h with ⟨hi, -⟩ | ⟨-, hr⟩ | ⟨-, hw⟩ | ⟨-, hp⟩
  · exact hi
  · simp at hr
  · contradiction
  · contradiction

/-- The INIT_ROM loop is the last line of INIT. -/
theorem opl_init_of_line_rom {s : State} (h : s.line = some .rom) : s.seq.opl = .init ∧ s.seq.item = 6 := by
  rcases line_cases h with ⟨hi, hl⟩ | ⟨-, hr⟩ | ⟨-, hw⟩ | ⟨-, hp⟩
  · exact ⟨hi, by simpa using hl⟩
  · simp at hr
  · contradiction
  · contradiction

/-- The lines that only the FRAME operations have. -/
def Item.frameOnly : Item → Bool
  | .pixels _ _ | .noOrientation => true
  | .setup | .rst _ | .delay _ | .wait | .cmd _ | .data _ | .rom | .fill => false

theorem isFrame_of_line_frameOnly {s : State} {i : Item} (h : s.line = some i) (hi : i.frameOnly = true) :
    s.seq.opl.isFrame = true := by
  have hm : i ∈ program s := List.mem_of_getElem? h
  by_contra hf
  have hall : ∀ k ∈ program s, k.frameOnly = false := by
    unfold program
    cases ho : s.seq.opl with
    | frameH | frameV => simp [ho, Op.isFrame] at hf
    | _ =>
      simp [initProgram, resetProgram, panelReset, sendCmdProgram, sendDataProgram, waitIdleProgram, clearProgram,
        displaySleepProgram, select, Item.frameOnly]
  simp [hall i hm] at hi

/-- A FRAME operation that fits ORIENT has an orientation to run with. -/
theorem orient_ne_none_of_variantOk {op : Op} {o : Option Orientation} (hf : op.isFrame = true)
    (hv : op.variantOk o = true) : o ≠ none := by
  rintro rfl
  cases op <;> simp_all [Op.isFrame, Op.variantOk]

theorem noOrientation_not_mem_frameProgram (split : Split) (p : Params) (o : Orientation) :
    Item.noOrientation ∉ frameProgram split p (some o) := by
  simp [frameProgram, select]

/-- Without an orientation is the only way a program comes to the line `noOrientation` (42_frame_partitioner.md R187). -/
theorem orient_eq_none_of_line_noOrientation {s : State} (h : s.line = some .noOrientation) :
    s.status.orient = none := by
  have hf := isFrame_of_line_frameOnly h rfl
  have hm : Item.noOrientation ∈ program s := List.mem_of_getElem? h
  by_contra hn
  obtain ⟨o, ho⟩ := Option.ne_none_iff_exists'.mp hn
  unfold program at hm
  cases hop : s.seq.opl with
  | frameH | frameV =>
    rw [hop, ho] at hm
    exact noOrientation_not_mem_frameProgram _ _ o hm
  | _ => simp [hop, Op.isFrame] at hf

/-! ### Each line answers a next state -/

theorem sendByte_answers (lvl : Level) (b : Byte) (after : State → State) (s : State) :
    ∃ t, sendByte lvl b after s = .next t := by
  rcases sendByte_cases lvl b after s with ⟨-, h⟩ | ⟨-, _, h⟩ <;> exact ⟨_, h⟩

/-- INIT's `Setup` needs the orientation its operand names. -/
theorem setupStep_answers {s : State} (h : orientationOf s.seq.argl ≠ none) : ∃ t, setupStep s = .next t := by
  obtain ⟨o, ho⟩ := Option.ne_none_iff_exists'.mp h
  unfold setupStep
  rw [ho]
  cases s.setupAnswer <;> exact ⟨_, rfl⟩

/-- The INIT_ROM loop needs a frame for each entry. -/
theorem romStep_answers {s : State} (h : ∀ e ∈ s.params.initRom, ∃ f, romFrame e s = some f) :
    ∃ t, romStep s = .next t := by
  unfold romStep
  cases hk : s.params.initRom[s.seq.k]? with
  | none => exact ⟨_, rfl⟩
  | some e =>
    obtain ⟨f, hf⟩ := h e (List.mem_of_getElem? hk)
    simp only [hf]
    exact sendByte_answers _ _ _ s

/-- A pixel line needs the address of its byte to exist. -/
theorem pixelStep_answers {split : Split} {half : Half} {s : State}
    (h : s.seq.fbl.toNat + sourceOffset split s.params half s.seq.b s.seq.j < addressSpace) :
    ∃ t, pixelStep split half s = .next t := by
  unfold pixelStep fetchByte
  rw [if_pos h]
  cases s.seq.beat with
  | framed | fetched => exact sendByte_answers _ _ _ s
  | start | polled | again => exact ⟨_, rfl⟩

/-- INIT past its setup holds two PSR lists of PSR_LEN bytes, so INIT_ROM has no entry without a frame. -/
theorem romFrame_of_line_rom {s : State} (hc : Consistent s) (hw : s.params.WellFormed) (ha : s.status.active = true)
    (hl : s.line = some .rom) : ∀ e ∈ s.params.initRom, ∃ f, romFrame e s = some f := by
  obtain ⟨hlen, ⟨q, hq⟩, -⟩ := hw
  obtain ⟨hop, hitem⟩ := opl_init_of_line_rom hl
  obtain ⟨o, -, hM, hS⟩ := hc.psrLatched ha hop (by omega)
  obtain ⟨hlenM, hlenS⟩ := hlen o
  intro e he
  exact romFrame_isSome (q.rom_inRange _ e (hq ▸ he)) (hM ▸ hlenM) (hS ▸ hlenS)

/-- A running FRAME operation reads below 2^32 (20_memory.md R96). -/
theorem pixelAddress_lt {s : State} {split : Split} {half : Half} (hc : Consistent s) (hw : s.params.WellFormed)
    (ha : s.status.active = true) (hl : s.line = some (.pixels split half)) :
    s.seq.fbl.toNat + sourceOffset split s.params half s.seq.b s.seq.j < addressSpace := by
  obtain ⟨-, -, hg⟩ := hw
  obtain ⟨hb, hj, -⟩ := hc.bounded ha
  calc s.seq.fbl.toNat + sourceOffset split s.params half s.seq.b s.seq.j
      < s.seq.fbl.toNat + s.params.fbLen := Nat.add_lt_add_left (sourceOffset_lt_fbLen hg split half hb hj) _
    _ ≤ addressSpace := hc.range ha (isFrame_of_line_frameOnly hl rfl)

/-- The line `noOrientation` is not reached. -/
theorem line_ne_noOrientation {s : State} (hc : Consistent s) (ha : s.status.active = true) :
    s.line ≠ some .noOrientation := fun hl =>
  orient_ne_none_of_variantOk (isFrame_of_line_frameOnly hl rfl) (hc.variant ha) (orient_eq_none_of_line_noOrientation hl)

theorem itemStep_answers {s : State} {i : Item} (hc : Consistent s) (hw : s.params.WellFormed)
    (ha : s.status.active = true) (hl : s.line = some i) : ∃ t, itemStep i s = .next t := by
  cases i with
  | setup => exact setupStep_answers (hc.initArg ha (opl_init_of_line_setup hl))
  | rom => exact romStep_answers (romFrame_of_line_rom hc hw ha hl)
  | pixels split half => exact pixelStep_answers (pixelAddress_lt hc hw ha hl)
  | noOrientation => exact absurd hl (line_ne_noOrientation hc ha)
  | cmd | data | fill => exact sendByte_answers _ _ _ s
  | rst | delay | wait => exact ⟨_, rfl⟩

theorem engineStep_answers {s : State} (hc : Consistent s) (hw : s.params.WellFormed) : ∃ t, engineStep s = .next t := by
  unfold engineStep
  split
  · rename_i ha
    split
    · rename_i i hl
      exact itemStep_answers hc hw ha hl
    · exact ⟨_, rfl⟩
  · exact ⟨_, rfl⟩

/-- Settles O50: with no host action due the step is the engine's, and no line it can stand at faults. -/
theorem engineNeverStops : Obligations.EngineNeverStops := by
  unfold Obligations.EngineNeverStops
  intro s hc hw hi
  unfold step
  rw [hi]
  exact engineStep_answers hc hw

end Sys2Proof.Machine

/-! Proofs of the family 10_state.md. What a running operation keeps and how far a move takes the sequencer, so that every step
keeps STATUS and the sequencer consistent; what a step does to STATUS and the event stream, said once as an inversion; the
register window; and that the internal registers are not read while no operation is active. -/

namespace Sys2Proof.Machine

/-! ### Consistency of idle states, and of states that look alike (10_state.md R37-R42) -/

/-- What consistency asks of a state in which no operation is active. -/
theorem Consistent.of_idle {s : State} (ha : s.status.active = false) (hr : s.status.result ≠ .pending)
    (ho : s.status.tsetupOk = true → s.status.orient ≠ none)
    (hp : s.status.pstate ≠ .unconfigured → s.status.tsetupOk = true) (hb : s.status.busyWait = false)
    (hv : s.seq.v = 0) : Consistent s := by
  constructor <;> simp_all

/-- No wait is open while no operation is active. -/
theorem Consistent.busyWait_eq_false {s : State} (hc : Consistent s) (ha : s.status.active = false) :
    s.status.busyWait = false := by
  simpa [ha] using hc.waiting

/-- Consistency looks at STATUS but for OVR, at the internal registers and at the parameters, and at nothing else. -/
theorem Consistent.congr {s t : State} (hc : Consistent s) (hs : t.status = { s.status with ovr := t.status.ovr })
    (hq : t.seq = s.seq) (hp : t.params = s.params) : Consistent t := by
  obtain ⟨st, _, _, _, q, p⟩ := t
  dsimp only at hs hq hp
  subst hq hp
  rw [hs]
  exact ⟨hc.pending, hc.oriented, hc.configured, hc.waiting, hc.setUp, hc.initArg, hc.psrLatched, hc.initReset,
    hc.variant, hc.range, hc.awake, hc.noCopy, hc.bounded⟩

/-- Consistent are the register values of a reset (10_state.md R59). -/
theorem consistent_of_reset {s : State} (hs : s.status = Status.reset) (hq : s.seq = Sequencer.reset) :
    Consistent s := by
  refine .of_idle ?_ ?_ ?_ ?_ ?_ ?_ <;> simp [hs, hq, Status.reset, Sequencer.reset]

/-! ### Where the sequencer stands -/

theorem line_of_init_item_zero {s : State} (ho : s.seq.opl = .init) (hi : s.seq.item = 0) : s.line = some .setup := by
  unfold State.line program
  rw [ho, hi]
  rfl

theorem item_zero_of_line_setup {s : State} (h : s.line = some .setup) : s.seq.item = 0 := by
  simpa [opl_init_of_line_setup h, Op.busWrite] using line_cases h

/-- The reset pulse is part of INIT and of RESET; in INIT it is the line after the setup. -/
theorem line_rstLow_of_init {s : State} (ho : s.seq.opl = .init) (hi : s.seq.item = 1) :
    s.line = some (.rst .low) := by
  unfold State.line program
  rw [ho, hi]
  rfl

/-- An operation that does not stand at INIT's setup runs with TSETUP_OK = 1 (60_exceptions.md R324). -/
theorem Consistent.tsetupOk_of_line {s : State} (hc : Consistent s) (ha : s.status.active = true)
    (hl : s.line ≠ some .setup) : s.status.tsetupOk = true := by
  refine hc.setUp ha ?_
  by_contra h
  push Not at h
  exact hl (line_of_init_item_zero h.1 h.2)

/-- Outside the lines of a wait BUSYWAIT is 0. -/
theorem Consistent.busyWait_of_line {s : State} (hc : Consistent s) (hl : s.line ≠ some .wait) :
    s.status.busyWait = false := by
  rw [← Bool.not_eq_true, hc.waiting]
  exact fun h => hl h.2.1

/-! ### Progress of a running operation (10_state.md R33, R34) -/

/-- The loop counters are below their limits (10_state.md R32). -/
def Sequencer.Bounded (q : Sequencer) : Prop :=
  q.b < Config.columnBytes ∧ q.j < Config.lineBytes ∧ q.n < Config.halfBytes

/-- The operation runs on: what it latched at accept and at its setup stands, the sequencer stays at its line or moves to the
next one, and PSTATE stays or becomes UNCONFIGURED, as it does at the line that drives RST Low. -/
structure Progress (s t : State) : Prop where
  status : t.status = { s.status with busyWait := t.status.busyWait, pstate := t.status.pstate }
  seq : t.seq = { s.seq with
    item := t.seq.item, beat := t.seq.beat, h := t.seq.h, b := t.seq.b, j := t.seq.j, k := t.seq.k, n := t.seq.n
    w := t.seq.w, v := t.seq.v }
  params : t.params = s.params
  pstate : t.status.pstate = s.status.pstate ∨ t.status.pstate = .unconfigured
  item : t.seq.item = s.seq.item ∨
    (t.seq.item = s.seq.item + 1 ∧ (s.line = some (.rst .low) → t.status.pstate = .unconfigured))

/-- A running operation that is past its setup and makes progress stays consistent, where BUSYWAIT tells an open wait and the
loop counters stay below their limits. -/
theorem Consistent.progress {s t : State} (hc : Consistent s) (ha : s.status.active = true)
    (hl : s.line ≠ some .setup) (hp : Progress s t)
    (hw : t.status.busyWait = true ↔ t.line = some .wait ∧ (t.seq.beat = .polled ∨ t.seq.beat = .again))
    (hb : t.seq.Bounded) :
    Consistent t := by
  obtain ⟨hst, hsq, hpar, hps, hit⟩ := hp
  have hact : t.status.active = s.status.active := by rw [hst]
  have hres : t.status.result = s.status.result := by rw [hst]
  have hts : t.status.tsetupOk = s.status.tsetupOk := by rw [hst]
  have hor : t.status.orient = s.status.orient := by rw [hst]
  have hopl : t.seq.opl = s.seq.opl := by rw [hsq]
  have harg : t.seq.argl = s.seq.argl := by rw [hsq]
  have hfbl : t.seq.fbl = s.seq.fbl := by rw [hsq]
  have hM : t.seq.psrM = s.seq.psrM := by rw [hsq]
  have hS : t.seq.psrS = s.seq.psrS := by rw [hsq]
  have hset := hc.tsetupOk_of_line ha hl
  have hitem : s.seq.opl = .init → s.seq.item ≠ 0 := fun ho h0 => hl (line_of_init_item_zero ho h0)
  constructor
  case pending => rw [hact, hres]; exact hc.pending
  case oriented => rw [hts, hor]; exact hc.oriented
  case configured => exact fun _ => hts.trans hset
  case waiting => simpa [hact, ha, State.line] using hw
  case setUp => exact fun _ _ => hts.trans hset
  case initArg => rw [hact, hopl, harg]; exact hc.initArg
  case psrLatched =>
    rw [hact, hopl, hor, hM, hS, hpar]
    exact fun _ ho _ => hc.psrLatched ha ho (hitem ho)
  case initReset =>
    intro _ ho h2
    rw [hopl] at ho
    by_cases h1 : s.seq.item = 1
    · obtain h | ⟨-, h⟩ := hit
      · omega
      · exact h (line_rstLow_of_init ho h1)
    · have hold := hc.initReset ha ho (by have := hitem ho; omega)
      exact hps.elim (·.trans hold) id
  case variant => rw [hact, hopl, hor]; exact hc.variant
  case range => rw [hact, hopl, hfbl, hpar]; exact hc.range
  case awake =>
    rw [hact, hopl]
    exact fun _ hbw hd => hc.awake ha hbw ((hps.resolve_right (by simp [hd])).symm.trans hd)
  case noCopy => simp [hact, ha]
  case bounded => exact fun _ => hb

/-- Progress outside a wait. -/
theorem Consistent.progress_of_not_wait {s t : State} (hc : Consistent s) (ha : s.status.active = true)
    (hl : s.line ≠ some .setup) (hlw : s.line ≠ some .wait) (hp : Progress s t)
    (hbw : t.status.busyWait = s.status.busyWait) (hbeat : t.seq.beat ≠ .polled ∧ t.seq.beat ≠ .again)
    (hb : t.seq.Bounded) :
    Consistent t := by
  refine hc.progress ha hl hp ?_ hb
  simp [hbw, hc.busyWait_of_line hlw, hbeat]

/-! ### The sequencer's moves keep consistency -/

theorem nextItem_bounded (s : State) : s.nextItem.seq.Bounded := by
  simp [Sequencer.Bounded, Config.columnBytes, Config.lineBytes, Config.halfBytes]

/-- After a byte the sequencer goes to the next line, or round the loop of its line with the counters below their limits. -/
theorem Advance.cases {s : State} {after : State → State} (hd : Advance s after) (u : State) :
    after u = u.nextItem ∨ ∃ b j k n, after u = { u with seq := { u.seq with beat := .start, b, j, k, n } } ∧
      (u.seq.Bounded → (after u).seq.Bounded) := by
  cases hd with
  | cmd | data => exact .inl rfl
  | rom =>
    unfold nextRom
    split
    · exact .inr ⟨_, _, _, _, rfl, id⟩
    · exact .inl rfl
  | fill =>
    unfold nextFill
    split
    next hn => exact .inr ⟨_, _, _, _, rfl, fun ⟨hb, hj, _⟩ => ⟨hb, hj, hn⟩⟩
    next => exact .inl rfl
  | pixels =>
    unfold nextPixel
    split
    next hj => exact .inr ⟨_, _, _, _, rfl, fun ⟨hb, _, hn⟩ => ⟨hb, hj, hn⟩⟩
    next =>
      split
      next hb => exact .inr ⟨_, _, _, _, rfl, fun ⟨_, _, hn⟩ => ⟨hb, Nat.zero_lt_succ _, hn⟩⟩
      next => exact .inl rfl

theorem Advance.status {s : State} {after : State → State} (hd : Advance s after) (u : State) :
    (after u).status = u.status := by
  rcases hd.cases u with h | ⟨_, _, _, _, h, -⟩ <;> simp [h]

theorem Advance.trace {s : State} {after : State → State} (hd : Advance s after) (u : State) :
    (after u).trace = u.trace := by
  rcases hd.cases u with h | ⟨_, _, _, _, h, -⟩ <;> simp [h]

theorem Advance.beat {s : State} {after : State → State} (hd : Advance s after) (u : State) :
    (after u).seq.beat = .start := by
  rcases hd.cases u with h | ⟨_, _, _, _, h, -⟩ <;> simp [h]

theorem Advance.bounded {s : State} {after : State → State} (hd : Advance s after) {u : State}
    (hb : u.seq.Bounded) : (after u).seq.Bounded := by
  rcases hd.cases u with h | ⟨_, _, _, _, -, h⟩
  · exact h ▸ nextItem_bounded u
  · exact h hb

/-- Lines that send no byte. -/
theorem Advance.line_ne {s : State} {after : State → State} (hd : Advance s after) :
    s.line ≠ some .setup ∧ s.line ≠ some .wait ∧ ∀ lvl, s.line ≠ some (.rst lvl) := by
  cases hd <;> simp [*]

theorem Advance.progress {s : State} {after : State → State} (hd : Advance s after) (tr : List Event) (p : Panel) :
    Progress s (after { s with trace := tr, panel := p }) := by
  obtain ⟨-, -, hrst⟩ := hd.line_ne
  rcases hd.cases { s with trace := tr, panel := p } with h | ⟨_, _, _, _, h, -⟩ <;> rw [h]
  · exact ⟨rfl, rfl, rfl, .inl rfl, .inr ⟨rfl, fun hl => absurd hl (hrst _)⟩⟩
  · exact ⟨rfl, rfl, rfl, .inl rfl, .inl rfl⟩

/-- The end of an operation: PSTATE leaves UNCONFIGURED only where TSETUP_OK is 1. -/
theorem Consistent.endOperation {s : State} (hc : Consistent s) (ha : s.status.active = true)
    (hl : s.line ≠ some .setup) : Consistent (endOperation s) := by
  have hset := hc.tsetupOk_of_line ha hl
  unfold Machine.endOperation
  split <;> exact .of_idle rfl (by simp) hc.oriented (fun _ => hset) rfl rfl

/-- INIT's `Setup` answered ok (44_protocol_operations.md R231, R232). -/
theorem Consistent.setupOk {s : State} {o : Orientation} (hc : Consistent s) (ha : s.status.active = true)
    (hl : s.line = some .setup) :
    Consistent (setupDone o (s.takeSetup.emit (.setup true))).nextItem := by
  have hopl := opl_init_of_line_setup hl
  have hitem := item_zero_of_line_setup hl
  have hbw := hc.busyWait_of_line (by simp [hl])
  constructor
  case pending => simpa using hc.pending
  case initArg => simpa using hc.initArg
  all_goals simp [hopl, hitem, hbw, ha, Op.variantOk, Op.isFrame, Op.busWrite, Config.columnBytes, Config.lineBytes,
      Config.halfBytes]

/-- One BUSY read of a wait, the first one or a later one: POLLS and w may just have been cleared. -/
theorem Consistent.pollBusy {s : State} (hc : Consistent s) (ha : s.status.active = true)
    (hl : s.line = some .wait) (polls : Word) (w : Nat) :
    Consistent (pollBusy { s with polls, seq := { s.seq with w } }) := by
  have hset := hc.tsetupOk_of_line ha (by simp [hl])
  generalize hu : { s with polls, seq := { s.seq with w } } = u
  rcases pollBusy_cases u with ⟨-, h⟩ | ⟨-, -, -, h⟩ | ⟨-, -, h⟩ <;> rw [h] <;> subst hu
  · refine hc.progress ha (by simp [hl]) ⟨?_, ?_, ?_, .inl ?_, .inr ?_⟩ ?_ (nextItem_bounded _) <;> simp [hl]
  · exact .of_idle rfl (by simp) (by simpa using hc.oriented) (by simp [hset]) rfl rfl
  · refine hc.progress ha (by simp [hl]) ?progress (iff_of_true rfl ⟨?line, .inl rfl⟩)
      (by simpa [Sequencer.Bounded] using hc.bounded ha)
    case progress => refine ⟨?_, ?_, ?_, .inl ?_, .inl ?_⟩ <;> simp
    case line => simpa [State.line, program] using hl

/-- A line of WaitUntilIdle (43_protocol_primitives.md R205). -/
theorem Consistent.waitStep {s : State} (hc : Consistent s) (ha : s.status.active = true)
    (hl : s.line = some .wait) : Consistent (waitStep s) := by
  rcases waitStep_cases s with ⟨hb, h⟩ | ⟨-, h⟩ | ⟨-, -, h⟩ <;> rw [h]
  · have hbw : s.status.busyWait = true := hc.waiting.mpr ⟨ha, hl, .inl hb⟩
    exact hc.progress ha (by simp [hl]) ⟨rfl, rfl, rfl, .inl rfl, .inl rfl⟩
      (iff_of_true hbw ⟨hl, .inr rfl⟩) (hc.bounded ha)
  · exact hc.pollBusy ha hl s.polls s.seq.w
  · exact hc.pollBusy ha hl 0 0

/-- The line that drives RST (43_protocol_primitives.md R209). -/
theorem Consistent.rstStep {s : State} {lvl : Level} (hc : Consistent s) (ha : s.status.active = true)
    (hl : s.line = some (.rst lvl)) : Consistent (rstStep lvl s) := by
  cases lvl with
  | low =>
    exact hc.progress_of_not_wait ha (by simp [hl]) (by simp [hl])
      ⟨rfl, rfl, rfl, .inr rfl, .inr ⟨rfl, fun _ => rfl⟩⟩ rfl ⟨by simp [Machine.rstStep], by simp [Machine.rstStep]⟩
      (nextItem_bounded _)
  | high =>
    exact hc.progress_of_not_wait ha (by simp [hl]) (by simp [hl])
      ⟨rfl, rfl, rfl, .inl rfl, .inr ⟨rfl, by simp [hl]⟩⟩ rfl ⟨by simp [Machine.rstStep], by simp [Machine.rstStep]⟩
      (nextItem_bounded _)

/-- Every move of the engine keeps STATUS and the sequencer consistent. -/
theorem EngineMove.consistent {s t : State} (hc : Consistent s) (h : EngineMove s t) : Consistent t := by
  cases h with
  | idle => exact hc
  | ended ha hl => exact hc.endOperation ha (by rcases hl with hl | ⟨hl, -⟩ <;> simp [hl])
  | setupOk o ha hl => exact hc.setupOk ha hl
  | setupFail => exact .of_idle rfl (by simp) (by simp) (by simp) rfl rfl
  | rst lvl ha hl => exact hc.rstStep ha hl
  | delay ms ha hl =>
    exact hc.progress_of_not_wait ha (by simp [hl]) (by simp [hl])
      ⟨rfl, rfl, rfl, .inl rfl, .inr ⟨rfl, by simp [hl]⟩⟩ rfl (by simp) (nextItem_bounded s)
  | wait ha hl => exact hc.waitStep ha hl
  | dc lvl after ha hd =>
    obtain ⟨hset, hwait, -⟩ := hd.line_ne
    exact hc.progress_of_not_wait ha hset hwait ⟨rfl, rfl, rfl, .inl rfl, .inl rfl⟩ rfl (by simp) (hc.bounded ha)
  | byte b p after ha hbeat hd =>
    obtain ⟨hset, hwait, -⟩ := hd.line_ne
    exact hc.progress_of_not_wait ha hset hwait (hd.progress _ p) (by rw [hd.status]) (by simp [hd.beat])
      (hd.bounded (hc.bounded ha))
  | fetch split half v d a ha hl =>
    exact hc.progress_of_not_wait ha (by simp [hl]) (by simp [hl]) ⟨rfl, rfl, rfl, .inl rfl, .inl rfl⟩ rfl (by simp)
      (hc.bounded ha)

/-! ### Requests and the other actions of the host keep consistency (60_exceptions.md R323-R325) -/

theorem Consistent.reject {s : State} {code : Result} (hc : Consistent s) (ha : s.status.active = false)
    (hr : code ≠ .pending) : Consistent (s.reject code) :=
  .of_idle ha hr hc.oriented hc.configured (hc.busyWait_eq_false ha) (hc.noCopy ha)

theorem Consistent.overrun {s : State} (hc : Consistent s) : Consistent s.overrun :=
  hc.congr rfl rfl rfl

/-- A request that passes every check is accepted into a consistent state (44_protocol_operations.md R230). -/
theorem Consistent.accept {s : State} {op : Op} {arg : Byte} (hc : Consistent s) (ha : s.status.active = false)
    (hr : requestError op arg s = none) : Consistent (s.accept op arg) := by
  obtain ⟨harg, hset, hawake, hvar, hrange⟩ := requestError_none hr
  constructor
  case pending => simp
  case oriented => exact hc.oriented
  case configured => exact hc.configured
  case waiting => simp [hc.busyWait_eq_false ha]
  case setUp => exact fun _ h => hset (h.resolve_right (by simp))
  case initArg => exact fun _ => harg
  case psrLatched => simp
  case initReset => simp
  case variant => exact fun _ => hvar
  case range => exact fun _ hf => by simpa [show op.isFrame = true from hf] using hrange hf
  case awake => exact fun _ => hawake
  case noCopy => simp
  case bounded => simp [Config.columnBytes, Config.lineBytes, Config.halfBytes]

theorem Consistent.request {s : State} (hc : Consistent s) (op : Op) (arg : Byte) :
    Consistent (request op arg s) := by
  rcases request_cases op arg s with ⟨-, h⟩ | ⟨ha, code, he, h⟩ | ⟨ha, he, h⟩ <;> rw [h]
  · exact hc.overrun
  · exact hc.reject ha (requestError_ne he).1
  · exact hc.accept ha he

theorem HostMove.consistent {s t : State} (hc : Consistent s) (h : HostMove s t) : Consistent t := by
  cases h with
  | request op arg => exact hc.request op arg
  | illegal =>
    unfold illegalRequest
    split
    next => exact hc.overrun
    next ha => exact hc.reject (by simpa using ha) (by decide)
  | status v =>
    unfold writeStatus
    split
    · exact hc.congr rfl rfl rfl
    · exact hc
  | fbBase | waitLimit | ignored | read | sync => exact hc.congr rfl rfl rfl

/-- Settles O47: a step is a move of the engine or an action of the host, and each of them keeps consistency. -/
theorem stepKeepsConsistent : Obligations.StepKeepsConsistent := by
  unfold Obligations.StepKeepsConsistent
  intro s t hc h
  rcases step_cases h with ⟨-, hm⟩ | ⟨a, rest, -, hh⟩
  · exact hm.consistent hc
  · have hc' : Consistent { s with inputs := rest } := hc.congr rfl rfl rfl
    rcases hostStep_cases hh with ⟨hm, -⟩ | ⟨addr, v, -, rfl⟩ | ⟨-, rfl⟩ | ⟨-, hm⟩
    · exact hm.consistent hc'
    · exact hc'.congr rfl rfl rfl
    · exact consistent_of_reset rfl rfl
    · exact hm.consistent hc'

/-- Settles O46: at reset no operation is active, no event has been emitted and no byte of host memory is listed. -/
theorem invariantsHoldAtReset : Obligations.InvariantsHoldAtReset := by
  unfold Obligations.InvariantsHoldAtReset
  refine ⟨consistent_of_reset rfl rfl, ⟨?_, ?_⟩, ?_⟩
  · intro newer b older h
    exact absurd h (by simp [State.reset])
  · exact fun h => absurd h (by decide)
  · exact ⟨.nil, by simp [State.reset]⟩

/-! ### What a step does to STATUS and to the event stream, said once -/

/-- PSTATE after the end of an operation (10_state.md R49). -/
def endPState (op : Op) (p : PState) : PState :=
  match op with
  | .init => .ready
  | .displaySleep => .deepSleep
  | .reset | .sendCmd | .sendData | .waitIdle | .clear | .frameH | .frameV => p

/-- Events that leave STATUS alone: all but `Setup`, RST Low and the BUSY reads. -/
def Event.quiet : Event → Bool
  | .setup _ | .pinWrite .rst .low | .pinRead _ => false
  | .pinWrite .rst .high | .pinWrite .dc _ | .spi _ | .delay _ | .fbRead _ => true

/-- STATUS after a move of the engine, and the event the move emits. -/
inductive EngineEffect (s : State) : Option Event → Status → Prop
  | idle : s.status.active = false → EngineEffect s none s.status
  | ended : s.status.active = true → s.line ≠ some .wait →
      EngineEffect s none (s.status.ended .ok (endPState s.seq.opl s.status.pstate))
  | setupOk (o : Orientation) : s.status.active = true → s.line = some .setup → orientationOf s.seq.argl = some o →
      EngineEffect s (some (.setup true)) { s.status with tsetupOk := true, orient := some o }
  | setupFail : s.status.active = true → s.line = some .setup →
      EngineEffect s (some (.setup false)) { s.status.ended .errSetup .unconfigured with tsetupOk := false }
  | rstLow : s.status.active = true → s.line = some (.rst .low) →
      EngineEffect s (some (.pinWrite .rst .low)) { s.status with pstate := .unconfigured }
  | readHigh : s.status.active = true → s.line = some .wait →
      EngineEffect s (some (.pinRead .high)) { s.status with busyWait := false }
  | readLow : s.status.active = true → s.line = some .wait →
      EngineEffect s (some (.pinRead .low)) { s.status with busyWait := true }
  | timedOut : s.status.active = true → s.line = some .wait →
      EngineEffect s (some (.pinRead .low)) (s.status.ended .errTimeout s.status.pstate)
  | quiet (e : Event) : s.status.active = true → e.quiet = true → EngineEffect s (some e) s.status

/-- `t` is what a move with this effect leaves: its STATUS, and the event, if there is one, newest in the stream. -/
def HasEffect (effect : Option Event → Status → Prop) (s t : State) : Prop :=
  ∃ e, effect e t.status ∧ t.trace = e.toList ++ s.trace

theorem endOperation_status (s : State) :
    (endOperation s).status = s.status.ended .ok (endPState s.seq.opl s.status.pstate) := by
  unfold endOperation endPState
  cases s.seq.opl <;> rfl

/-- One BUSY read, the first one of a wait or a later one. -/
theorem pollBusy_effect {s u : State} (ha : s.status.active = true) (hl : s.line = some .wait)
    (hst : u.status = s.status) (htr : u.trace = s.trace) : HasEffect (EngineEffect s) s (pollBusy u) := by
  rcases pollBusy_cases u with ⟨-, h⟩ | ⟨-, -, -, h⟩ | ⟨-, -, h⟩
  · exact ⟨_, by simpa [h, hst] using .readHigh ha hl, by simp [h, htr]⟩
  · exact ⟨_, by simpa [h, hst] using .timedOut ha hl, by simp [h, htr]⟩
  · exact ⟨_, by simpa [h, hst] using .readLow ha hl, by simp [h, htr]⟩

/-- A line of WaitUntilIdle is a poll delay or a BUSY read. -/
theorem waitStep_effect {s : State} (ha : s.status.active = true) (hl : s.line = some .wait) :
    HasEffect (EngineEffect s) s (waitStep s) := by
  rcases waitStep_cases s with ⟨-, h⟩ | ⟨-, h⟩ | ⟨-, -, h⟩ <;> rw [h]
  · exact ⟨_, .quiet (.delay Config.pollMs) ha rfl, rfl⟩
  · exact pollBusy_effect ha hl rfl rfl
  · exact pollBusy_effect ha hl rfl rfl

theorem EngineMove.effect {s t : State} (h : EngineMove s t) : HasEffect (EngineEffect s) s t := by
  cases h with
  | idle ha => exact ⟨none, .idle ha, rfl⟩
  | ended ha hl =>
    refine ⟨none, ?_, endOperation_trace s⟩
    rw [endOperation_status]
    exact .ended ha (by rcases hl with hl | ⟨hl, -⟩ <;> simp [hl])
  | setupOk o ha hl ho => exact ⟨some (.setup true), by simpa using .setupOk o ha hl ho, by simp⟩
  | setupFail ha hl => exact ⟨some (.setup false), by simpa using .setupFail ha hl, by simp⟩
  | rst lvl ha hl =>
    cases lvl with
    | low => exact ⟨_, .rstLow ha hl, rfl⟩
    | high => exact ⟨_, .quiet (.pinWrite .rst .high) ha rfl, rfl⟩
  | delay ms ha hl => exact ⟨_, .quiet (.delay ms) ha rfl, rfl⟩
  | wait ha hl => exact waitStep_effect ha hl
  | dc lvl after ha hd => exact ⟨_, .quiet (.pinWrite .dc lvl) ha rfl, rfl⟩
  | byte b p after ha hb hd =>
    refine ⟨some (.spi b), ?_, by rw [hd.trace]; rfl⟩
    rw [hd.status]
    exact .quiet (.spi b) ha rfl
  | fetch split half v d a ha hl => exact ⟨_, .quiet (.fbRead a) ha rfl, rfl⟩

/-- The queue of host actions has no part in what the engine does. -/
theorem EngineEffect.of_inputs {s : State} {rest : List HostAction} {e : Option Event} {st : Status}
    (h : EngineEffect { s with inputs := rest } e st) : EngineEffect s e st := by
  cases h <;> constructor <;> assumption

/-- STATUS after a step, and the event the step emits. -/
inductive StepEffect (s : State) : Option Event → Status → Prop
  | engine (e : Option Event) (st : Status) : EngineEffect s e st → StepEffect s e st
  | held : StepEffect s none s.status
  | engineReset : s.inputs.head? = some .engineReset → StepEffect s none Status.reset
  | dropped (w : Word) : s.inputs.head? = some (.write 0x00 32 w) → s.status.active = true →
      StepEffect s none { s.status with ovr := true }
  | rejected (code : Result) : s.status.active = false → StepEffect s none { s.status with result := code }
  | accepted : s.status.active = false → StepEffect s none { s.status with active := true, result := .pending }
  | ovrCleared (v : Word) : s.inputs.head? = some (.write 0x04 32 v) → v.getLsbD 12 = true →
      StepEffect s none { s.status with ovr := false }

/-! ### The register window (10_state.md R35-R48) -/

theorem accessOk_iff {offset width : Nat} :
    accessOk offset width = true ↔ width = 32 ∧ offset % 4 = 0 ∧ offset < 32 := by
  simp [accessOk, and_assoc]

theorem step_of_inputs_nil {s : State} (h : s.inputs = []) : step s = engineStep s := by
  rw [step, h]

theorem step_of_inputs_cons {s : State} {a : HostAction} {rest : List HostAction} (h : s.inputs = a :: rest) :
    step s = hostStep a { s with inputs := rest } := by
  rw [step, h]

/-- A host write inside the interface is the write of the register. -/
theorem step_write {s : State} {offset : Nat} {v : Word} {rest : List HostAction}
    (h : s.inputs = .write offset 32 v :: rest) (hok : accessOk offset 32 = true) :
    step s = writeRegister offset v { s with inputs := rest } := by
  rw [step_of_inputs_cons h]
  exact if_pos hok

/-- A host read inside the interface returns the register. -/
theorem step_read {s : State} {offset : Nat} {rest : List HostAction}
    (h : s.inputs = .read offset 32 :: rest) (hok : accessOk offset 32 = true) :
    step s = .next { s with inputs := rest, hostRead := registerValue offset s } := by
  rw [step_of_inputs_cons h]
  exact if_pos hok

/-! ### Inversion of a step -/

/-- A write of any word to CMD (10_state.md R36, 60_exceptions.md R323, R326). -/
theorem writeCmd_effect {s t : State} {w : Word} {rest : List HostAction}
    (hi : s.inputs = .write 0x00 32 w :: rest) (h : writeCmd w { s with inputs := rest } = .next t) :
    HasEffect (StepEffect s) s t := by
  have hw : s.inputs.head? = some (.write 0x00 32 w) := by rw [hi]; rfl
  unfold writeCmd at h
  split at h
  next i hd =>
    obtain ⟨op, arg, he⟩ := exec_request { s with inputs := rest } hd
    rw [he] at h
    cases h
    rcases request_cases op arg { s with inputs := rest } with ⟨ha, hr⟩ | ⟨ha, code, -, hr⟩ | ⟨ha, -, hr⟩ <;> rw [hr]
    · exact ⟨none, .dropped w hw ha, rfl⟩
    · exact ⟨none, .rejected code ha, rfl⟩
    · exact ⟨none, .accepted ha, rfl⟩
  next =>
    cases h
    unfold illegalRequest
    split
    next ha => exact ⟨none, .dropped w hw ha, rfl⟩
    next ha => exact ⟨none, .rejected .errOp (by simpa using ha), rfl⟩

theorem writeRegister_effect {s t : State} {offset : Nat} {v : Word} {rest : List HostAction}
    (hi : s.inputs = .write offset 32 v :: rest) (h : writeRegister offset v { s with inputs := rest } = .next t) :
    HasEffect (StepEffect s) s t := by
  unfold writeRegister at h
  split at h
  · exact writeCmd_effect hi h
  · cases h
    unfold writeStatus
    split
    next hv => exact ⟨none, .ovrCleared v (by rw [hi]; rfl) hv, rfl⟩
    next => exact ⟨none, .held, rfl⟩
  all_goals cases h; exact ⟨none, .held, rfl⟩

/-- Every step has one of the effects. -/
theorem step_effect {s t : State} (h : step s = .next t) : HasEffect (StepEffect s) s t := by
  rcases step_cases h with ⟨-, hm⟩ | ⟨a, rest, hi, hh⟩
  · obtain ⟨e, he, htr⟩ := hm.effect
    exact ⟨e, .engine e _ he, htr⟩
  · cases a with
    | write offset width v =>
      simp only [hostStep, hostWrite] at hh
      split at hh
      next hok =>
        obtain ⟨rfl, -⟩ := accessOk_iff.mp hok
        exact writeRegister_effect hi hh
      next => contradiction
    | read offset width =>
      simp only [hostStep, hostReadRegister] at hh
      split at hh
      · cases hh; exact ⟨none, .held, rfl⟩
      · contradiction
    | storeByte addr v => cases hh; exact ⟨none, .held, rfl⟩
    | engineReset => cases hh; exact ⟨none, .engineReset (by rw [hi]; rfl), rfl⟩
    | tick =>
      obtain ⟨e, he, htr⟩ := (engineStep_move hh).effect
      exact ⟨e, .engine e _ he.of_inputs, htr⟩
    | sync => cases hh; exact ⟨none, .held, rfl⟩

/-- Engine reset sets STATUS to its reset value (70_reset_and_hazards.md R360). -/
theorem step_engineReset_status {s t : State} (h : step s = .next t) (hi : s.inputs.head? = some .engineReset) :
    t.status = Status.reset := by
  obtain ⟨rest, hr⟩ := List.head?_eq_some_iff.mp hi
  rw [step_of_inputs_cons hr] at h
  cases h
  rfl

/-- The event of a step, read off the stream. -/
theorem event_eq_of_trace {e : Option Event} {x : Event} {old new : List Event} (h : new = e.toList ++ old)
    (hx : new = x :: old) : e = some x := by
  cases e with
  | none => exact absurd (h.symm.trans hx) (by simp)
  | some y => simpa using h.symm.trans hx

/-! ### At most one event a step (10_state.md R34, 20_memory.md R93) -/

theorem StepEffect.active_of_event {s : State} {x : Event} {st : Status} (h : StepEffect s (some x) st) :
    s.status.active = true := by
  cases h with
  | engine _ _ he => cases he <;> assumption

/-- Settles O51: a step has one effect, with one event or none, and only a running engine has one with an event. -/
theorem oneEventPerStep : Obligations.OneEventPerStep := by
  unfold Obligations.OneEventPerStep
  intro s t h
  obtain ⟨e, he, htr⟩ := step_effect h
  cases e with
  | none => exact ⟨.inl htr, fun _ => htr⟩
  | some x => exact ⟨.inr ⟨x, htr⟩, fun ha => absurd he.active_of_event (by simp [ha])⟩

/-! ### PSTATE (10_state.md R49) -/

theorem opl_of_line_rstLow {s : State} (h : s.line = some (.rst .low)) : s.seq.opl = .init ∨ s.seq.opl = .reset := by
  rcases line_cases h with ⟨hi, -⟩ | ⟨hr, -⟩ | ⟨-, hw⟩ | ⟨-, hp⟩
  · exact .inl hi
  · exact .inr hr
  · contradiction
  · contradiction

theorem StepEffect.pstate_of_setupFail {s : State} {st : Status} (h : StepEffect s (some (.setup false)) st) :
    st.pstate = .unconfigured := by
  cases h with
  | engine _ _ he =>
    cases he with
    | setupFail => rfl
    | quiet _ _ hq => contradiction

theorem StepEffect.pstate_of_rstLow {s : State} {st : Status} (h : StepEffect s (some (.pinWrite .rst .low)) st) :
    st.pstate = .unconfigured := by
  cases h with
  | engine _ _ he =>
    cases he with
    | rstLow => rfl
    | quiet _ _ hq => contradiction

/-- An operation that ends with OK, other than by engine reset, leaves the PSTATE of its end. -/
theorem StepEffect.pstate_of_end {s : State} {e : Option Event} {st : Status} (h : StepEffect s e st)
    (hs : s.status.active = true) (ht : st.active = false) (hi : s.inputs.head? ≠ some .engineReset)
    (hok : st.result = .ok) : st.pstate = endPState s.seq.opl s.status.pstate := by
  cases h with
  | engine _ _ he =>
    cases he with
    | ended => rfl
    | setupFail | timedOut => contradiction
    | _ => simp [hs] at ht
  | engineReset hr => exact absurd hr hi
  | _ => simp [hs] at *

/-- The effects that change PSTATE. -/
theorem StepEffect.pstate_changes {s : State} {e : Option Event} {st : Status} (h : StepEffect s e st)
    (hne : st.pstate ≠ s.status.pstate) :
    s.inputs.head? = some .engineReset ∨
    (s.seq.opl = .init ∧ e = some (.setup false)) ∨
    ((s.seq.opl = .init ∨ s.seq.opl = .reset) ∧ e = some (.pinWrite .rst .low)) ∨
    ((s.seq.opl = .init ∨ s.seq.opl = .displaySleep) ∧ s.status.active = true ∧ st.active = false ∧
      st.result = .ok) := by
  cases h with
  | engine _ _ he =>
    cases he with
    | ended ha =>
      refine .inr (.inr (.inr ⟨?_, ha, rfl, rfl⟩))
      cases ho : s.seq.opl <;> simp [Status.ended, endPState, ho] at hne ⊢
    | setupFail _ hl => exact .inr (.inl ⟨opl_init_of_line_setup hl, rfl⟩)
    | rstLow _ hl => exact .inr (.inr (.inl ⟨opl_of_line_rstLow hl, rfl⟩))
    | _ => exact absurd rfl hne
  | engineReset hr => exact .inl hr
  | _ => exact absurd rfl hne

/-- Settles O54: the clauses are read off the effect of the step. -/
theorem pstateMovesOnlyAsListed : Obligations.PstateMovesOnlyAsListed := by
  unfold Obligations.PstateMovesOnlyAsListed
  intro s t h
  obtain ⟨e, he, htr⟩ := step_effect h
  refine ⟨fun hi => ?reset, fun hx => ?setupFail, fun hx => ?rstLow, fun ht hs hi hok ho => ?init,
    fun ht hs hi hok ho => ?sleep, fun hne => ?changes⟩
  case reset => rw [step_engineReset_status h hi]; rfl
  case setupFail => exact (event_eq_of_trace htr hx ▸ he).pstate_of_setupFail
  case rstLow => exact (event_eq_of_trace htr hx ▸ he).pstate_of_rstLow
  case init => rw [he.pstate_of_end hs ht hi hok, ho]; rfl
  case sleep => rw [he.pstate_of_end hs ht hi hok, ho]; rfl
  case changes =>
    rcases he.pstate_changes hne with hi | ⟨ho, rfl⟩ | ⟨ho, rfl⟩ | hend
    · exact .inl hi
    · exact .inr (.inl ⟨ho, htr⟩)
    · exact .inr (.inr (.inl ⟨ho, htr⟩))
    · exact .inr (.inr (.inr hend))

/-! ### ORIENT, TSETUP_OK, OVR and BUSYWAIT (10_state.md R38, R40, R41, R43) -/

theorem StepEffect.orient_changes {s : State} {e : Option Event} {st : Status} (h : StepEffect s e st)
    (hne : st.orient ≠ s.status.orient) :
    s.inputs.head? = some .engineReset ∨
    (s.status.active = true ∧ s.seq.opl = .init ∧ e = some (.setup true) ∧ st.orient = orientationOf s.seq.argl ∧
      st.tsetupOk = true) := by
  cases h with
  | engine _ _ he =>
    cases he with
    | setupOk o ha hl ho => exact .inr ⟨ha, opl_init_of_line_setup hl, rfl, ho.symm, rfl⟩
    | _ => exact absurd rfl hne
  | engineReset hr => exact .inl hr
  | _ => exact absurd rfl hne

theorem StepEffect.tsetupOk_changes {s : State} {e : Option Event} {st : Status} (h : StepEffect s e st)
    (hne : st.tsetupOk ≠ s.status.tsetupOk) :
    (st.tsetupOk = false ∧ s.inputs.head? = some .engineReset) ∨
    (s.status.active = true ∧ s.seq.opl = .init ∧ e = some (.setup st.tsetupOk)) := by
  cases h with
  | engine _ _ he =>
    cases he with
    | setupOk _ ha hl => exact .inr ⟨ha, opl_init_of_line_setup hl, rfl⟩
    | setupFail ha hl => exact .inr ⟨ha, opl_init_of_line_setup hl, rfl⟩
    | _ => exact absurd rfl hne
  | engineReset hr => exact .inl ⟨rfl, hr⟩
  | _ => exact absurd rfl hne

theorem StepEffect.ovr_changes {s : State} {e : Option Event} {st : Status} (h : StepEffect s e st)
    (hne : st.ovr ≠ s.status.ovr) :
    (st.ovr = true ∧ s.status.active = true ∧ ∃ w, s.inputs.head? = some (.write 0x00 32 w)) ∨
    (st.ovr = false ∧ s.inputs.head? = some .engineReset) ∨
    (st.ovr = false ∧ ∃ v : Word, s.inputs.head? = some (.write 0x04 32 v) ∧ v.getLsbD 12 = true) := by
  cases h with
  | engine _ _ he => cases he <;> exact absurd rfl hne
  | engineReset hr => exact .inr (.inl ⟨rfl, hr⟩)
  | dropped w hw ha => exact .inl ⟨rfl, ha, w, hw⟩
  | ovrCleared v hv hb => exact .inr (.inr ⟨rfl, v, hv, hb⟩)
  | _ => exact absurd rfl hne

theorem StepEffect.busyWait_of_readLow {s : State} {st : Status} (h : StepEffect s (some (.pinRead .low)) st) :
    (st.active = true ∧ st.busyWait = true) ∨
    (st.active = false ∧ st.result = .errTimeout ∧ st.busyWait = false) := by
  cases h with
  | engine _ _ he =>
    cases he with
    | readLow ha => exact .inl ⟨ha, rfl⟩
    | timedOut => exact .inr ⟨rfl, rfl, rfl⟩
    | quiet _ _ hq => contradiction

theorem StepEffect.busyWait_of_readHigh {s : State} {st : Status} (h : StepEffect s (some (.pinRead .high)) st) :
    st.busyWait = false := by
  cases h with
  | engine _ _ he =>
    cases he with
    | readHigh => rfl
    | quiet _ _ hq => contradiction

/-- Where an operation ends other than by a BUSY read, no wait was open, so BUSYWAIT was 0 already. -/
theorem StepEffect.busyWait_changes {s : State} {e : Option Event} {st : Status} (hc : Consistent s)
    (h : StepEffect s e st) (hne : st.busyWait ≠ s.status.busyWait) :
    (st.busyWait = false ∧ s.inputs.head? = some .engineReset) ∨
    (s.status.active = true ∧ s.line = some .wait ∧ ∃ lvl, e = some (.pinRead lvl)) := by
  cases h with
  | engine _ _ he =>
    cases he with
    | ended _ hl => exact absurd (hc.busyWait_of_line hl).symm hne
    | setupFail _ hl => exact absurd (hc.busyWait_of_line (by simp [hl])).symm hne
    | readHigh ha hl => exact .inr ⟨ha, hl, .high, rfl⟩
    | readLow ha hl => exact .inr ⟨ha, hl, .low, rfl⟩
    | timedOut ha hl => exact .inr ⟨ha, hl, .low, rfl⟩
    | _ => exact absurd rfl hne
  | engineReset hr => exact .inl ⟨rfl, hr⟩
  | _ => exact absurd rfl hne

/-- Settles O55: the clauses are read off the effect of the step. -/
theorem orientChangesOnlyInSetup : Obligations.OrientChangesOnlyInSetup := by
  unfold Obligations.OrientChangesOnlyInSetup
  intro s t h
  obtain ⟨e, he, htr⟩ := step_effect h
  refine ⟨fun hne => ?orient, fun hne => ?tsetupOk, he.ovr_changes, fun hx => ?readLow, fun hx => ?readHigh,
    fun hc hne => ?busyWait⟩
  case orient =>
    rcases he.orient_changes hne with hi | ⟨ha, ho, rfl, hor⟩
    · exact .inl hi
    · exact .inr ⟨ha, ho, htr, hor⟩
  case tsetupOk =>
    rcases he.tsetupOk_changes hne with hi | ⟨ha, ho, rfl⟩
    · exact .inl hi
    · exact .inr ⟨ha, ho, htr⟩
  case readLow => exact (event_eq_of_trace htr hx ▸ he).busyWait_of_readLow
  case readHigh => exact (event_eq_of_trace htr hx ▸ he).busyWait_of_readHigh
  case busyWait =>
    rcases he.busyWait_changes hc hne with hi | ⟨ha, hl, lvl, rfl⟩
    · exact .inl hi
    · exact .inr ⟨ha, hl, lvl, htr⟩

/-! ### STATUS bit by bit (10_state.md R37-R44) -/

/-- Two fields side by side, as a number. -/
theorem toNat_append_eq_add {m n : Nat} (x : BitVec m) (y : BitVec n) :
    (x ++ y).toNat = x.toNat * 2 ^ n + y.toNat := by
  rw [BitVec.toNat_append, ← Nat.shiftLeft_add_eq_or_of_lt y.isLt, Nat.shiftLeft_eq]

/-- The STATUS word as a number: each field at the place of its lowest bit. -/
theorem Status.word_toNat (t : Status) :
    t.word.toNat = t.active.toNat + 2 * t.busyWait.toNat + 4 * t.pstate.code.toNat + 16 * t.tsetupOk.toNat +
      32 * (orientCode t.orient).toNat + 256 * t.result.code.toNat + 4096 * t.ovr.toNat := by
  have h : t.word.toNat = BitVec.toNat (w := 19 + 1 + 4 + 3 + 1 + 2 + 1 + 1)
      (0#19 ++ BitVec.ofBool t.ovr ++ t.result.code ++ orientCode t.orient ++ BitVec.ofBool t.tsetupOk ++
        t.pstate.code ++ BitVec.ofBool t.busyWait ++ BitVec.ofBool t.active) := rfl
  rw [h]
  simp only [toNat_append_eq_add, BitVec.toNat_ofBool, BitVec.toNat_ofNat]
  omega

/-- A bit of a word, from the word as a number. -/
theorem getLsbD_eq_of_toNat {n i : Nat} {x : BitVec n} {b : Bool} (h : x.toNat / 2 ^ i % 2 = b.toNat) :
    x.getLsbD i = b := by
  rw [BitVec.getLsbD, Nat.testBit_eq_decide_div_mod_eq, h]
  cases b <;> rfl

/-- A field of a word, from the word as a number. -/
theorem extractLsb'_eq_of_toNat {n m i : Nat} {x : BitVec n} {y : BitVec m} (h : x.toNat / 2 ^ i % 2 ^ m = y.toNat) :
    x.extractLsb' i m = y :=
  BitVec.eq_of_toNat_eq (by rw [BitVec.extractLsb'_toNat, Nat.shiftRight_eq_div_pow, h])

/-- Settles O11: the word as a number, divided at each field's lowest bit. -/
theorem statusWordLayout : Obligations.StatusWordLayout := by
  unfold Obligations.StatusWordLayout
  intro t
  have hword := t.word_toNat
  have hactive := t.active.toNat_lt
  have hbusyWait := t.busyWait.toNat_lt
  have hpstate := t.pstate.code.isLt
  have htsetupOk := t.tsetupOk.toNat_lt
  have horient := (orientCode t.orient).isLt
  have hresult := t.result.code.isLt
  have hovr := t.ovr.toNat_lt
  have hp : t.word.extractLsb' 2 2 = t.pstate.code := extractLsb'_eq_of_toNat (by omega)
  have ho : t.word.extractLsb' 5 3 = orientCode t.orient := extractLsb'_eq_of_toNat (by omega)
  have hr : t.word.extractLsb' 8 4 = t.result.code := extractLsb'_eq_of_toNat (by omega)
  have hrest : t.word.extractLsb' 13 19 = 0#19 := extractLsb'_eq_of_toNat (by rw [BitVec.toNat_ofNat]; omega)
  rw [hp, ho, hr, hrest]
  refine ⟨getLsbD_eq_of_toNat (by omega), getLsbD_eq_of_toNat (by omega), ?pstate, getLsbD_eq_of_toNat (by omega),
    ?orient, ?result, getLsbD_eq_of_toNat (by omega), rfl⟩
  case pstate => cases t.pstate <;> rfl
  case orient => rcases t.orient with _ | _ | _ | _ | _ <;> rfl
  case result => cases t.result <;> rfl

/-- Bits 31:13 of STATUS read 0 (10_state.md R44). -/
theorem Status.word_div (t : Status) : t.word.toNat / 2 ^ 13 = 0 := by
  obtain ⟨-, -, -, -, -, -, -, h⟩ := statusWordLayout t
  rw [BitVec.extractLsb'_toNat, Nat.shiftRight_eq_div_pow] at h
  have := t.word.isLt
  omega

/-! ### Reads and writes of registers -/

/-- Settles O12: at each aligned offset the register value is the register, or 0. -/
theorem registerReadReturnsTheRegister : Obligations.RegisterReadReturnsTheRegister := by
  unfold Obligations.RegisterReadReturnsTheRegister
  intro s offset rest hi hal hlt
  refine ⟨registerValue offset s, step_read hi (accessOk_iff.mpr ⟨rfl, hal, hlt⟩), ?_, ?_, ?_, ?_, fun h => ?_⟩
  · rintro rfl; rfl
  · rintro rfl; rfl
  · rintro rfl; exact BitVec.toNat_setWidth_of_le (by decide)
  · rintro rfl; rfl
  · unfold registerValue
    split
    case h_5 => rfl
    all_goals omega

/-- Settles O13: the write takes OVR away where bit 12 is 1, and is no other update of the state. -/
theorem statusWriteClearsOnlyOverrun : Obligations.StatusWriteClearsOnlyOverrun := by
  unfold Obligations.StatusWriteClearsOnlyOverrun
  intro s v rest hi
  refine ⟨?_, s.status.word_div⟩
  rw [step_write hi rfl]
  show Host.Outcome.next (writeStatus v _) = _
  unfold writeStatus
  cases v.getLsbD 12 <;> simp

/-- Settles O14: the two registers are stored, and the sequencer's latched copies are others. -/
theorem operandRegisterWrites : Obligations.OperandRegisterWrites := by
  unfold Obligations.OperandRegisterWrites
  intro s v rest
  refine ⟨fun hi => step_write hi rfl, fun hi => ⟨_, step_write hi rfl, rfl, ?_⟩⟩
  exact BitVec.toNat_setWidth 16 v

/-- Settles O15: no case of a register write takes the offset. -/
theorem reservedOffsetWritesIgnored : Obligations.ReservedOffsetWritesIgnored := by
  unfold Obligations.ReservedOffsetWritesIgnored
  intro s offset v rest hi ho
  rcases ho with rfl | rfl | rfl | rfl <;> exact step_write hi rfl

/-! ### A step runs the decoded instruction -/

/-- Settles O5: the write of a word to CMD is the meaning of what the word decodes to. -/
theorem stepRunsTheWrittenRequest : Obligations.StepRunsTheWrittenRequest := by
  unfold Obligations.StepRunsTheWrittenRequest
  intro s w i rest hi hd
  rw [step_write hi rfl]
  show writeCmd w _ = _
  rw [writeCmd, hd]

/-- With DC Low the byte of a wire command runs by its meaning. -/
theorem transfer_command {s : State} {b : Byte} {i : Instr} (hdc : s.dc = .low)
    (hd : decodeFrame (wireFrame false b) = .ok i) : transfer b s = exec i s := by
  simp [transfer, hdc, hd]

/-- Where DC has been written, sending a wire command is its meaning and the sequencer's move. -/
theorem sendByte_command {s : State} {lvl : Level} {b : Byte} {i : Instr} (after : State → State)
    (hbeat : s.seq.beat = .framed) (hdc : s.dc = .low) (hd : decodeFrame (wireFrame false b) = .ok i) :
    sendByte lvl b after s = mapNext after (exec i s) := by
  simp [sendByte, hbeat, transfer_command hdc hd]

/-- A step left to a running engine is the step of its line. -/
theorem engineStep_of_line {s : State} {l : Item} (ha : s.status.active = true) (hl : s.line = some l) :
    engineStep s = itemStep l s := by
  unfold State.line at hl
  simp [engineStep, ha, hl]

/-- Settles O6: both lines send the byte by `sendByte`. -/
theorem stepRunsTheWireCommand : Obligations.StepRunsTheWireCommand := by
  unfold Obligations.StepRunsTheWireCommand
  intro s b i hi ha hbeat hdc hd
  rw [step_of_inputs_nil hi]
  constructor
  · intro hl
    rw [engineStep_of_line ha hl]
    exact sendByte_command _ hbeat hdc hd
  · intro e hl hk hf
    rw [engineStep_of_line ha hl]
    simp only [itemStep, romStep, hk, hf]
    exact sendByte_command _ hbeat hdc hd

/-! ### Table words (30_encoding.md R110, 20_memory.md R83) -/

/-- What a table word of either size decodes from: its bytes, where it fits them. -/
theorem decodeTableWord_eq_some {nbits size w : Nat} {i : Instr} (hs : (if nbits ≤ 16 then 2 else 4) = size)
    (h : decodeTableWord nbits w = some i) : w < 256 ^ size ∧ decodeBytes (bytesOf size w) = .ok i := by
  simp only [decodeTableWord, hs] at h
  split at h
  next hw =>
    split at h
    next hd => cases h; exact ⟨hw, hd⟩
    next => contradiction
  next => contradiction

/-- The four bytes of a word make the word. -/
theorem append_bytes {w : Nat} (hw : w < 256 ^ 4) :
    (BitVec.ofNat 8 (w / 256 / 256 / 256) ++ BitVec.ofNat 8 (w / 256 / 256) ++ BitVec.ofNat 8 (w / 256) ++
      BitVec.ofNat 8 w : Word) = BitVec.ofNat 32 w := by
  refine BitVec.eq_of_toNat_eq ((toNat_append_eq_add _ _).trans ?_)
  simp only [toNat_append_eq_add, BitVec.toNat_ofNat]
  omega

/-- A table word of 32 bits decodes as the CMD write of it does. -/
theorem decodeRequest_of_decodeTableWord {w : Nat} {i : Instr} (h : decodeTableWord 32 w = some i) :
    decodeRequest (BitVec.ofNat 32 w) = .ok i := by
  obtain ⟨hw, hd⟩ := decodeTableWord_eq_some rfl h
  rw [← append_bytes hw]
  exact hd

/-- A frame with DC High is data, whatever its byte (30_encoding.md R119). -/
theorem decodeFrame_data (b : Byte) : decodeFrame (wireFrame true b) = .error .dataFrame := by
  simp [decodeFrame, frameIsData_wireFrame]

/-- A table word of a wire command has bit 8 clear, and decodes as the frame of its low byte with DC Low. -/
theorem decodeFrame_of_decodeTableWord {w : Nat} {i : Instr} (h : decodeTableWord 16 w = some i) :
    w.testBit 8 = false ∧ decodeFrame (wireFrame false (BitVec.ofNat 8 w)) = .ok i := by
  obtain ⟨-, hd⟩ := decodeTableWord_eq_some (size := 2) rfl h
  simp only [bytesOf, decodeBytes] at hd
  have hbit : (BitVec.ofNat 8 (w / 256)).getLsbD 0 = w.testBit 8 := by
    rw [BitVec.getLsbD_ofNat]
    exact Nat.testBit_div_two_pow (n := 8) w 0
  rw [hbit] at hd
  split at hd
  next =>
    cases hw : w.testBit 8 with
    | false => exact ⟨rfl, hw ▸ hd⟩
    | true => rw [hw, decodeFrame_data] at hd; contradiction
  next => contradiction

/-- The state in which a placed wire command is about to run: DC is Low and its byte is due. -/
def commandDue (b : Byte) (s : State) : State := ((s.accept .sendCmd b).writeDc .low).setBeat .framed

theorem placeFrame_command {w : Nat} {s : State} (hw : w.testBit 8 = false) :
    placeFrame w s = { commandDue (BitVec.ofNat 8 w) s with inputs := .tick :: s.inputs } := by
  simp [placeFrame, hw, commandDue]

/-- Settles O7: a request word is decoded at the host's write, a wire command at the byte due next. -/
theorem placedWordRuns : Obligations.PlacedWordRuns := by
  unfold Obligations.PlacedWordRuns
  intro s w i
  constructor
  · intro h
    exact stepRunsTheWrittenRequest (placeRequest w s) _ i s.inputs rfl (decodeRequest_of_decodeTableWord h)
  · intro h
    obtain ⟨hw, hd⟩ := decodeFrame_of_decodeTableWord h
    refine ⟨commandDue (BitVec.ofNat 8 w) s, ?_, rfl, rfl, rfl, rfl, rfl, rfl⟩
    show step (placeFrame w s) = _
    rw [placeFrame_command hw]
    have hline : (commandDue (BitVec.ofNat 8 w) s).line = some (.cmd (BitVec.ofNat 8 w)) := rfl
    calc engineStep (commandDue (BitVec.ofNat 8 w) s)
      _ = sendByte .low (BitVec.ofNat 8 w) State.nextItem (commandDue (BitVec.ofNat 8 w) s) := engineStep_of_line rfl hline
      _ = _ := sendByte_command State.nextItem rfl rfl hd

/-! ### The internal registers are not read while no operation is active (10_state.md R32) -/

/-- Two outcomes of the same kind, with related states or the same reason. -/
def OutcomesRelate (R : State → State → Prop) : StepResult → StepResult → Prop
  | .next s, .next t => R s t
  | .fault a, .fault b => a = b
  | .refused a, .refused b => a = b
  | _, _ => False

theorem agreeButInternals_of_relate {R : State → State → Prop} (hR : ∀ s t, R s t → sameButInternals s t)
    {r r' : StepResult} (h : OutcomesRelate R r r') : agreeButInternals r r' := by
  cases r <;> cases r' <;> first | exact hR _ _ h | exact h

/-- What a running operation still reads of the internal registers agrees. Left out are the registers an accept leaves as they
were: FBL where the operation is no FRAME op, and the PSR lists until INIT's setup has written them. -/
structure Sequencer.LiveEq (a b : Sequencer) : Prop where
  others : b = { a with fbl := b.fbl, psrM := b.psrM, psrS := b.psrS }
  fbl : a.opl.isFrame = true → b.fbl = a.fbl
  psr : a.opl = .init → a.item ≠ 0 → b.psrM = a.psrM ∧ b.psrS = a.psrS

/-- Two states that differ in internal registers only, and in none that a running operation still reads. -/
def LiveEq (s t : State) : Prop :=
  ∃ q, t = { s with seq := q } ∧ (s.status.active = true → s.seq.LiveEq q)

theorem LiveEq.sameButInternals {s t : State} (h : LiveEq s t) : sameButInternals s t := by
  obtain ⟨q, rfl, -⟩ := h
  rfl

theorem LiveEq.inputs {s t : State} (h : LiveEq s t) : t.inputs = s.inputs := by
  obtain ⟨q, rfl, -⟩ := h
  rfl

theorem LiveEq.withInputs {s t : State} (h : LiveEq s t) (l : List HostAction) :
    LiveEq { s with inputs := l } { t with inputs := l } := by
  obtain ⟨q, rfl, hq⟩ := h
  exact ⟨q, rfl, hq⟩

/-- While no operation is active any internal registers will do. -/
theorem LiveEq.of_idle {s : State} (q : Sequencer) (ha : s.status.active = false) : LiveEq s { s with seq := q } :=
  ⟨q, rfl, by simp [ha]⟩

/-! #### The engine -/

/-- Other contents of FBL and of the PSR lists. -/
def State.withLatches (f : Word) (m p : List Byte) (s : State) : State :=
  { s with seq := { s.seq with fbl := f, psrM := m, psrS := p } }

section Latches

variable (f : Word) (m p : List Byte) (s : State)

theorem nextRom_withLatches : nextRom (s.withLatches f m p) = (nextRom s).withLatches f m p := by
  unfold nextRom
  rw [apply_ite (State.withLatches f m p)]
  rfl

theorem nextFill_withLatches : nextFill (s.withLatches f m p) = (nextFill s).withLatches f m p := by
  unfold nextFill
  rw [apply_ite (State.withLatches f m p)]
  rfl

theorem nextPixel_withLatches : nextPixel (s.withLatches f m p) = (nextPixel s).withLatches f m p := by
  unfold nextPixel
  rw [apply_ite (State.withLatches f m p), apply_ite (State.withLatches f m p)]
  rfl

theorem takeBusy_withLatches : (s.withLatches f m p).takeBusy = s.takeBusy.withLatches f m p := by
  unfold State.takeBusy
  rw [show (s.withLatches f m p).busyAnswers = s.busyAnswers from rfl]
  cases s.busyAnswers <;> rfl

theorem takeSetup_withLatches : (s.withLatches f m p).takeSetup = s.takeSetup.withLatches f m p := by
  unfold State.takeSetup
  rw [show (s.withLatches f m p).setupAnswers = s.setupAnswers from rfl]
  cases s.setupAnswers <;> rfl

theorem endOperation_withLatches : endOperation (s.withLatches f m p) = (endOperation s).withLatches f m p := by
  unfold endOperation
  rw [show (s.withLatches f m p).seq.opl = s.seq.opl from rfl]
  cases s.seq.opl <;> rfl

theorem pollBusy_withLatches : pollBusy (s.withLatches f m p) = (pollBusy s).withLatches f m p := by
  simp only [pollBusy, takeBusy_withLatches]
  rw [show (s.withLatches f m p).busyAnswer = s.busyAnswer from rfl]
  cases s.busyAnswer with
  | high => rfl
  | low =>
    dsimp only
    rw [apply_ite (State.withLatches f m p)]
    rfl

theorem waitStep_withLatches : waitStep (s.withLatches f m p) = (waitStep s).withLatches f m p := by
  unfold waitStep
  rw [show (s.withLatches f m p).seq.beat = s.seq.beat from rfl]
  cases s.seq.beat with
  | polled => rfl
  | again => exact pollBusy_withLatches f m p s
  | start | framed | fetched => exact pollBusy_withLatches f m p (waitBegins s)

theorem rstStep_withLatches (lvl : Level) : rstStep lvl (s.withLatches f m p) = (rstStep lvl s).withLatches f m p := by
  cases lvl <;> rfl

theorem exec_wire_withLatches {n : Nat} {i : Instr} (h : wireCommand n = some i) :
    exec i (s.withLatches f m p) = mapNext (State.withLatches f m p) (exec i s) := by
  unfold wireCommand at h
  split at h <;> cases h <;> rfl

/-- A frame that decodes is a listed command byte. -/
theorem wireCommand_of_decodeFrame {x : BitVec 9} {i : Instr} (h : decodeFrame x = .ok i) :
    wireCommand (frameByte x).toNat = some i := by
  unfold decodeFrame at h
  split at h
  · contradiction
  · split at h
    next hw => cases h; exact hw
    next => contradiction

theorem transfer_withLatches (b : Byte) :
    transfer b (s.withLatches f m p) = mapNext (State.withLatches f m p) (transfer b s) := by
  unfold transfer
  rw [show (s.withLatches f m p).dc = s.dc from rfl]
  cases hd : decodeFrame (wireFrame (decide (s.dc = .high)) b) with
  | ok i => exact exec_wire_withLatches f m p s (wireCommand_of_decodeFrame hd)
  | error e => cases e <;> rfl

theorem sendByte_withLatches {after : State → State} (lvl : Level) (b : Byte)
    (hafter : ∀ u : State, after (u.withLatches f m p) = (after u).withLatches f m p) :
    sendByte lvl b after (s.withLatches f m p) = mapNext (State.withLatches f m p) (sendByte lvl b after s) := by
  unfold sendByte
  rw [show (s.withLatches f m p).seq.beat = s.seq.beat from rfl]
  cases s.seq.beat with
  | framed =>
    simp only [transfer_withLatches]
    cases transfer b s with
    | next u => exact congrArg Host.Outcome.next (hafter u)
    | fault | refused => rfl
  | start | polled | again | fetched => rfl

end Latches

/-- INIT's setup does not read the latches. Where it succeeds it writes the PSR lists, the same into both states. -/
theorem setupStep_liveEq {f : Word} {m p : List Byte} {s : State} (hl : s.line = some .setup) :
    OutcomesRelate LiveEq (setupStep s) (setupStep (s.withLatches f m p)) := by
  have hopl := opl_init_of_line_setup hl
  simp only [setupStep, takeSetup_withLatches]
  rw [show (s.withLatches f m p).setupAnswer = s.setupAnswer from rfl,
    show (s.withLatches f m p).seq.argl = s.seq.argl from rfl]
  split
  · cases orientationOf s.seq.argl with
    | some o => exact ⟨_, rfl, fun _ => ⟨rfl, by simp [hopl, Op.isFrame], fun _ _ => ⟨rfl, rfl⟩⟩⟩
    | none => rfl
  · exact ⟨_, rfl, by simp⟩

/-- The other lines do not read the latches, but for FBL in the lines that fetch pixels and the PSR lists in INIT_ROM. -/
theorem itemStep_withLatches {f : Word} {m p : List Byte} {s : State} {i : Item} (hset : i ≠ .setup)
    (hpix : ∀ split half, i = .pixels split half → f = s.seq.fbl)
    (hrom : i = .rom → m = s.seq.psrM ∧ p = s.seq.psrS) :
    itemStep i (s.withLatches f m p) = mapNext (State.withLatches f m p) (itemStep i s) := by
  cases i with
  | setup => contradiction
  | rst lvl => exact congrArg Host.Outcome.next (rstStep_withLatches f m p s lvl)
  | delay | noOrientation => rfl
  | wait => exact congrArg Host.Outcome.next (waitStep_withLatches f m p s)
  | cmd | data => exact sendByte_withLatches f m p s _ _ fun _ => rfl
  | fill => exact sendByte_withLatches f m p s _ _ (nextFill_withLatches f m p)
  | rom =>
    obtain ⟨rfl, rfl⟩ := hrom rfl
    simp only [itemStep, romStep]
    rw [show (s.withLatches f s.seq.psrM s.seq.psrS).params.initRom[(s.withLatches f s.seq.psrM s.seq.psrS).seq.k]? =
      s.params.initRom[s.seq.k]? from rfl]
    cases s.params.initRom[s.seq.k]? with
    | none => exact congrArg Host.Outcome.next (endOperation_withLatches _ _ _ s)
    | some e =>
      dsimp only
      rw [show romFrame e (s.withLatches f s.seq.psrM s.seq.psrS) = romFrame e s by cases e <;> rfl]
      cases romFrame e s with
      | none => rfl
      | some x => exact sendByte_withLatches _ _ _ s _ _ (nextRom_withLatches _ _ _)
  | pixels split half =>
    cases hpix split half rfl
    simp only [itemStep, pixelStep]
    rw [show (s.withLatches s.seq.fbl m p).seq.beat = s.seq.beat from rfl]
    cases s.seq.beat with
    | fetched | framed => exact sendByte_withLatches _ _ _ s _ _ (nextPixel_withLatches _ _ _)
    | start | polled | again =>
      dsimp only
      unfold fetchByte
      rw [apply_ite (mapNext _)]
      rfl

/-- A move of the engine keeps the operation and FBL, and the PSR lists but in INIT's setup. -/
theorem EngineMove.latched {s t : State} (h : EngineMove s t) : t.seq.opl = s.seq.opl ∧ t.seq.fbl = s.seq.fbl ∧
    (s.line ≠ some .setup → t.seq.psrM = s.seq.psrM ∧ t.seq.psrS = s.seq.psrS) := by
  have hpoll (u : State) : (pollBusy u).seq.opl = u.seq.opl ∧ (pollBusy u).seq.fbl = u.seq.fbl ∧
      (pollBusy u).seq.psrM = u.seq.psrM ∧ (pollBusy u).seq.psrS = u.seq.psrS := by
    rcases pollBusy_cases u with ⟨-, h⟩ | ⟨-, -, -, h⟩ | ⟨-, -, h⟩ <;> simp [h]
  cases h with
  | setupOk o ha hl => simp [hl]
  | rst lvl => cases lvl <;> simp [rstStep]
  | wait => rcases waitStep_cases s with ⟨-, h⟩ | ⟨-, h⟩ | ⟨-, -, h⟩ <;> simp [h, hpoll]
  | byte b p after _ _ hd =>
    rw [(hd.progress (.spi b :: s.trace) p).seq]
    exact ⟨rfl, rfl, fun _ => ⟨rfl, rfl⟩⟩
  | _ => simp

theorem engineStep_of_line_none {s : State} (ha : s.status.active = true) (hl : s.line = none) :
    engineStep s = .next (endOperation s) := by
  unfold State.line at hl
  simp [engineStep, ha, hl]

/-- A step of a running operation, which reads FBL as a FRAME op only and the PSR lists in INIT past its setup only. -/
theorem engineStep_withLatches_liveEq {f : Word} {m p : List Byte} {s : State} (ha : s.status.active = true)
    (hfbl : s.seq.opl.isFrame = true → f = s.seq.fbl)
    (hpsr : s.seq.opl = .init → s.seq.item ≠ 0 → m = s.seq.psrM ∧ p = s.seq.psrS) :
    OutcomesRelate LiveEq (engineStep s) (engineStep (s.withLatches f m p)) := by
  have ha' : (s.withLatches f m p).status.active = true := ha
  have hline : (s.withLatches f m p).line = s.line := rfl
  cases hl : s.line with
  | none =>
    rw [engineStep_of_line_none ha hl, engineStep_of_line_none ha' (hline.trans hl), endOperation_withLatches]
    exact ⟨_, rfl, by simp [endOperation_status, Status.ended]⟩
  | some i =>
    rw [engineStep_of_line ha hl, engineStep_of_line ha' (hline.trans hl)]
    by_cases hi : i = .setup
    · subst hi
      exact setupStep_liveEq hl
    · have hne : s.line ≠ some .setup := by simp [hl, hi]
      have hitem : s.seq.opl = .init → s.seq.item ≠ 0 := fun ho h0 => hne (line_of_init_item_zero ho h0)
      have hpix : ∀ split half, i = .pixels split half → f = s.seq.fbl := by
        rintro _ _ rfl
        exact hfbl (isFrame_of_line_frameOnly hl rfl)
      have hrom : i = .rom → m = s.seq.psrM ∧ p = s.seq.psrS := by
        rintro rfl
        obtain ⟨ho, -⟩ := opl_init_of_line_rom hl
        exact hpsr ho (hitem ho)
      rw [itemStep_withLatches hi hpix hrom]
      cases hr : itemStep i s with
      | next u =>
        obtain ⟨hopl, hf, hp⟩ := (itemStep_move ha hl hr).latched
        obtain ⟨hM, hS⟩ := hp hne
        refine ⟨_, rfl, fun _ => ⟨rfl, ?_, ?_⟩⟩
        · rw [hopl, hf]
          exact hfbl
        · rw [hopl, hM, hS]
          exact fun ho _ => hpsr ho (hitem ho)
      | fault | refused => rfl

/-- A step left to the engine. -/
theorem engineStep_liveEq {s t : State} (h : LiveEq s t) : OutcomesRelate LiveEq (engineStep s) (engineStep t) := by
  obtain ⟨q, rfl, hq⟩ := h
  cases ha : s.status.active with
  | false =>
    rw [engineStep, engineStep, if_neg (by simp [ha]), if_neg (by simp [ha])]
    exact .of_idle q ha
  | true =>
    obtain ⟨hothers, hfbl, hpsr⟩ := hq ha
    rw [show { s with seq := q } = s.withLatches q.fbl q.psrM q.psrS by rw [hothers]; rfl]
    exact engineStep_withLatches_liveEq ha hfbl hpsr

/-! #### Actions of the host -/

/-- A request checks and latches nothing of the internal registers. -/
theorem request_liveEq {s t : State} (h : LiveEq s t) (op : Op) (arg : Byte) :
    LiveEq (request op arg s) (request op arg t) := by
  obtain ⟨q, rfl, hq⟩ := h
  have herr : requestError op arg { s with seq := q } = requestError op arg s := rfl
  unfold request
  rw [herr]
  cases ha : s.status.active with
  | true => exact ⟨q, by simp [ha, State.overrun], fun _ => hq ha⟩
  | false =>
    cases requestError op arg s with
    | some code => exact ⟨q, by simp [ha, State.reject], by simp [ha]⟩
    | none =>
      refine ⟨(State.accept op arg { s with seq := q }).seq, by simp; rfl, fun _ => ?_⟩
      simp only [Bool.false_eq_true, if_false]
      exact ⟨rfl, fun hf => by simp [show op.isFrame = true from hf], by simp⟩

theorem illegalRequest_liveEq {s t : State} (h : LiveEq s t) : LiveEq (illegalRequest s) (illegalRequest t) := by
  obtain ⟨q, rfl, hq⟩ := h
  unfold illegalRequest
  cases ha : s.status.active with
  | true => exact ⟨q, by simp [ha, State.overrun], fun _ => hq ha⟩
  | false => exact ⟨q, by simp [ha, State.reject], by simp [ha]⟩

/-- The meaning of a host request is one request, in every state. -/
theorem exec_eq_request {w : Word} {i : Instr} (h : decodeRequest w = .ok i) :
    ∃ op arg, ∀ s, exec i s = .next (request op arg s) := by
  unfold decodeRequest decodeOp noOperand at h
  repeat' split at h
  all_goals cases h <;> exact ⟨_, _, fun _ => rfl⟩

theorem writeCmd_liveEq {s t : State} (h : LiveEq s t) (w : Word) :
    OutcomesRelate LiveEq (writeCmd w s) (writeCmd w t) := by
  unfold writeCmd
  cases hd : decodeRequest w with
  | ok i =>
    obtain ⟨op, arg, he⟩ := exec_eq_request hd
    simp only [he]
    exact request_liveEq h op arg
  | error => exact illegalRequest_liveEq h

theorem writeStatus_liveEq {s t : State} (h : LiveEq s t) (v : Word) : LiveEq (writeStatus v s) (writeStatus v t) := by
  obtain ⟨q, rfl, hq⟩ := h
  unfold writeStatus
  split
  · exact ⟨q, rfl, hq⟩
  · exact ⟨q, rfl, hq⟩

theorem writeRegister_liveEq {s t : State} (h : LiveEq s t) (offset : Nat) (v : Word) :
    OutcomesRelate LiveEq (writeRegister offset v s) (writeRegister offset v t) := by
  unfold writeRegister
  split
  · exact writeCmd_liveEq h v
  · exact writeStatus_liveEq h v
  all_goals
    obtain ⟨q, rfl, hq⟩ := h
    exact ⟨q, rfl, hq⟩

/-- Which buffer a running FRAME op streams depends on nothing but what it still reads. -/
theorem inActiveBuffer_liveEq {s : State} {q : Sequencer} (hq : s.status.active = true → s.seq.LiveEq q) (a : Nat) :
    inActiveBuffer a { s with seq := q } = inActiveBuffer a s := by
  unfold inActiveBuffer
  cases ha : s.status.active with
  | false => rfl
  | true =>
    obtain ⟨hothers, hfbl, -⟩ := hq ha
    have hopl : q.opl = s.seq.opl := by rw [hothers]
    rw [hopl]
    cases hf : s.seq.opl.isFrame with
    | false => rfl
    | true => rw [hfbl hf]

theorem hostStore_liveEq {s t : State} (h : LiveEq s t) (a : Nat) (v : Byte) :
    LiveEq (hostStore a v s) (hostStore a v t) := by
  obtain ⟨q, rfl, hq⟩ := h
  exact ⟨q, by simp only [hostStore, inActiveBuffer_liveEq hq], hq⟩

theorem hostStep_liveEq {s t : State} (h : LiveEq s t) (a : HostAction) :
    OutcomesRelate LiveEq (hostStep a s) (hostStep a t) := by
  cases a with
  | write offset width v =>
    simp only [hostStep, hostWrite]
    split
    · exact writeRegister_liveEq h offset v
    · rfl
  | read offset width =>
    obtain ⟨q, rfl, hq⟩ := h
    simp only [hostStep, hostReadRegister]
    split
    · exact ⟨q, rfl, hq⟩
    · rfl
  | storeByte addr v => exact hostStore_liveEq h addr.toNat v
  | engineReset =>
    obtain ⟨q, rfl, -⟩ := h
    exact ⟨Sequencer.reset, rfl, by simp [engineReset, Status.reset]⟩
  | tick => exact engineStep_liveEq h
  | sync =>
    obtain ⟨q, rfl, hq⟩ := h
    exact ⟨q, rfl, hq⟩

/-! #### Runs -/

theorem step_liveEq {s t : State} (h : LiveEq s t) : OutcomesRelate LiveEq (step s) (step t) := by
  cases hi : s.inputs with
  | nil =>
    rw [step_of_inputs_nil hi, step_of_inputs_nil (h.inputs.trans hi)]
    exact engineStep_liveEq h
  | cons a rest =>
    rw [step_of_inputs_cons hi, step_of_inputs_cons (h.inputs.trans hi)]
    exact hostStep_liveEq (h.withInputs rest) a

theorem run_liveEq {s t : State} (n : Nat) (h : LiveEq s t) : OutcomesRelate LiveEq (run n s) (run n t) := by
  induction n generalizing s t with
  | zero => exact h
  | succ n ih =>
    have hstep := step_liveEq h
    unfold run
    cases hs : step s <;> cases ht : step t <;> rw [hs, ht] at hstep
    case next.next => exact ih hstep
    case fault.fault | refused.refused => exact hstep
    all_goals contradiction

/-- Settles O56: runs keep the internal registers a running operation still reads equal, and the other ones are not read. -/
theorem internalRegistersDoNotLeak : Obligations.InternalRegistersDoNotLeak := by
  unfold Obligations.InternalRegistersDoNotLeak
  intro s t n ha hst
  have h : LiveEq s t := ⟨t.seq, hst, by simp [ha]⟩
  exact agreeButInternals_of_relate (fun _ _ => LiveEq.sameButInternals) (run_liveEq n h)

end Sys2Proof.Machine

/-! Proofs of the family 20_memory.md: only the host's stores write host memory; a frame-buffer read takes its byte from
there, and its range check is exact; and what the record of the panel keeps of a stream and of PON, POF and DSLP. -/

namespace Sys2Proof.Machine

/-! ### Who writes host memory (20_memory.md R84, 00_scope.md R14) -/

theorem pollBusy_memory (s : State) : (pollBusy s).memory = s.memory := by
  rcases pollBusy_cases s with ⟨-, h⟩ | ⟨-, -, -, h⟩ | ⟨-, -, h⟩ <;> simp [h]

theorem waitStep_memory (s : State) : (waitStep s).memory = s.memory := by
  rcases waitStep_cases s with ⟨-, h⟩ | ⟨-, h⟩ | ⟨-, -, h⟩ <;> simp [h, pollBusy_memory]

theorem Advance.memory {s : State} {after : State → State} (hd : Advance s after) (u : State) :
    (after u).memory = u.memory := by
  rcases hd.cases u with h | ⟨_, _, _, _, h, -⟩ <;> simp [h]

theorem EngineMove.memory {s t : State} (h : EngineMove s t) : t.memory = s.memory := by
  cases h with
  | rst lvl => cases lvl <;> rfl
  | wait => exact waitStep_memory s
  | byte b p after _ _ hd => exact hd.memory _
  | _ => simp

theorem HostMove.memory {s t : State} (h : HostMove s t) : t.memory = s.memory := by
  cases h with
  | request op arg =>
    rcases request_cases op arg s with ⟨-, h⟩ | ⟨-, _, -, h⟩ | ⟨-, -, h⟩ <;> simp [h]
  | illegal => unfold illegalRequest; split <;> rfl
  | status v => unfold writeStatus; split <;> rfl
  | fbBase | waitLimit | ignored | read | sync => rfl

/-- A step leaves host memory alone, or it is a store of the host. -/
theorem step_memory_cases {s t : State} (h : step s = .next t) :
    t.memory = s.memory ∨
    ∃ a v rest, s.inputs = .storeByte a v :: rest ∧ t = hostStore a.toNat v { s with inputs := rest } := by
  rcases step_cases h with ⟨-, hm⟩ | ⟨act, rest, hi, hh⟩
  · exact .inl hm.memory
  · rcases hostStep_cases hh with ⟨hm, -⟩ | ⟨a, v, rfl, ht⟩ | ⟨-, rfl⟩ | ⟨-, hm⟩
    · exact .inl hm.memory
    · exact .inr ⟨a, v, rest, hi, ht⟩
    · exact .inl rfl
    · exact .inl hm.memory

/-- Settles O45: a step that is no store of the host leaves host memory alone. -/
theorem engineNeverWritesHostMemory : Obligations.EngineNeverWritesHostMemory := by
  unfold Obligations.EngineNeverWritesHostMemory
  intro s t h hns
  rcases step_memory_cases h with hm | ⟨a, v, rest, hi, -⟩
  · exact hm
  · exact absurd hi (hns a v rest)

/-- Settles O49: a store of the host keeps the canonical form, and no other step touches host memory. -/
theorem stepKeepsMemoryForm : Obligations.StepKeepsMemoryForm := by
  unfold Obligations.StepKeepsMemoryForm
  intro s t hw h
  rcases step_memory_cases h with hm | ⟨a, v, rest, -, rfl⟩
  · exact hm ▸ hw
  · exact hostStore_wf hw

/-! ### Stores of the host (20_memory.md R92, 70_reset_and_hazards.md R368) -/

theorem inActiveBuffer_iff {a : Nat} {s : State} :
    inActiveBuffer a s = true ↔ s.status.active = true ∧ s.seq.opl.isFrame = true ∧ s.seq.fbl.toNat ≤ a ∧
      a < s.seq.fbl.toNat + s.params.fbLen := by
  simp [inActiveBuffer, and_assoc]

/-- A store marks its own address as raced where it lies in the buffer of a running FRAME op, and no other address. -/
theorem mem_raced_hostStore {a x : Nat} {v : Byte} {s : State} :
    x ∈ (hostStore a v s).raced ↔ x ∈ s.raced ∨ (x = a ∧ inActiveBuffer x s = true) := by
  simp only [hostStore, Bool.and_eq_true, Bool.not_eq_true', List.contains_eq_mem, decide_eq_false_iff_not]
  split
  next h =>
    rw [List.mem_cons, or_comm]
    exact or_congr_right ⟨fun hx => ⟨hx, hx ▸ h.1⟩, And.left⟩
  next h =>
    have hold : x = a ∧ inActiveBuffer x s = true → x ∈ s.raced := by
      rintro ⟨rfl, hb⟩
      by_contra hn
      exact h ⟨hb, hn⟩
    exact (or_iff_left_of_imp hold).symm

/-- Settles O44: the laws of memory for the byte stored and the bytes beside it, and the addresses a store marks. -/
theorem hostStoreWritesOneByte : Obligations.HostStoreWritesOneByte := by
  unfold Obligations.HostStoreWritesOneByte
  intro s a v rest hi hw
  refine ⟨hostStore a.toNat v { s with inputs := rest }, step_of_inputs_cons hi, rfl, Memory.read_write_same hw,
    fun x hx => Memory.read_write_other v s.memory hx, fun x => ?_⟩
  rw [mem_raced_hostStore, inActiveBuffer_iff]

/-! ### Frame-buffer reads (20_memory.md R84, R90, R92) -/

theorem frameBufferByte_of_not_raced {a : Nat} {s : State} (h : a ∉ s.raced) :
    frameBufferByte a s = Memory.read s.memory a :=
  if_neg h

/-- A pixel line that has not begun its byte reads it. -/
theorem pixelStep_of_start {split : Split} {half : Half} {s : State} (h : s.seq.beat = .start) :
    pixelStep split half s =
      fetchByte (s.seq.fbl.toNat + sourceOffset split s.params half s.seq.b s.seq.j) half s := by
  rw [pixelStep, h]

/-- Settles O43: the line reads its byte below 2^32, from host memory where the address is not raced. -/
theorem frameBufferReadReturnsTheHostByte : Obligations.FrameBufferReadReturnsTheHostByte := by
  unfold Obligations.FrameBufferReadReturnsTheHostByte
  intro s split h a hi ha hl hb haddr hlt
  rw [step_of_inputs_nil hi, engineStep_of_line ha hl, itemStep, pixelStep_of_start hb, ← haddr, fetchByte, if_pos hlt]
  exact ⟨_, rfl, rfl, frameBufferByte_of_not_raced⟩

/-! ### The range check (20_memory.md R96) -/

theorem fbLen_of_specGeometry {p : Params} (h : p.specGeometry) : p.fbLen = 53856 := by
  rw [Params.fbLen, h.1]
  rfl

/-- What an accepted request latches, and that nothing else changes (44_protocol_operations.md R230). -/
theorem accepted_accept (op : Op) (arg : Byte) (s : State) : Accepted op arg s (s.accept op arg) where
  frame := rfl
  status := rfl
  opl := rfl
  argl := rfl
  wll := rfl
  fbl h := if_pos h
  first := ⟨rfl, rfl⟩

theorem request_eq_reject {op : Op} {arg : Byte} {s : State} {code : Result} (ha : s.status.active = false)
    (he : requestError op arg s = some code) : request op arg s = s.reject code := by
  simp [request, ha, he]

theorem request_eq_accept {op : Op} {arg : Byte} {s : State} (ha : s.status.active = false)
    (he : requestError op arg s = none) : request op arg s = s.accept op arg := by
  simp [request, ha, he]

/-- For a FRAME request that passes the checks before it, the range check decides (60_exceptions.md R323). -/
theorem requestError_frame {op : Op} {arg : Byte} {s : State} (hf : op.isFrame = true)
    (hset : s.status.tsetupOk = true) (hawake : s.status.pstate ≠ .deepSleep)
    (hvar : op.variantOk s.status.orient = true) :
    requestError op arg s = if s.fbBase.toNat + s.params.fbLen > addressSpace then some .errRange else none := by
  have hop : op ≠ .init := by rintro rfl; contradiction
  simp [requestError, hop, hset, hawake, hvar, hf]

/-- Under the decided geometry such a request is rejected above 2^32 - 53856, and accepted up to there. -/
theorem request_frame_range {op : Op} {s : State} (hf : op.isFrame = true) (ha : s.status.active = false)
    (hset : s.status.tsetupOk = true) (hawake : s.status.pstate ≠ .deepSleep) (hg : s.params.specGeometry)
    (hvar : op.variantOk s.status.orient = true) :
    (2 ^ 32 - 53856 < s.fbBase.toNat → request op 0 s = s.reject .errRange) ∧
    (s.fbBase.toNat ≤ 2 ^ 32 - 53856 → Accepted op 0 s (request op 0 s)) := by
  have he := requestError_frame (arg := 0) hf hset hawake hvar
  rw [fbLen_of_specGeometry hg, addressSpace] at he
  refine ⟨fun hlt => ?rejected, fun hle => ?accepted⟩
  case rejected =>
    rw [if_pos (by omega)] at he
    exact request_eq_reject ha he
  case accepted =>
    rw [if_neg (by omega)] at he
    rw [request_eq_accept ha he]
    exact accepted_accept op 0 s

/-- Settles O23: under an orientation its variant takes, a FRAME request comes to the range check, which decides. -/
theorem rangeCheckIsExact : Obligations.RangeCheckIsExact := by
  unfold Obligations.RangeCheckIsExact
  intro s ha hset hawake hg
  refine ⟨fun ho => ?frameH, fun ho => ?frameV⟩
  case frameH =>
    have hvar : Op.frameH.variantOk s.status.orient = true := by simpa [Op.variantOk] using ho
    obtain ⟨hout, hin⟩ := request_frame_range rfl ha hset hawake hg hvar
    exact ⟨fun h => congrArg Host.Outcome.next (hout h), fun h => ⟨_, rfl, hin h⟩⟩
  case frameV =>
    have hvar : Op.frameV.variantOk s.status.orient = true := by simpa [Op.variantOk] using ho
    obtain ⟨hout, hin⟩ := request_frame_range rfl ha hset hawake hg hvar
    exact ⟨fun h => congrArg Host.Outcome.next (hout h), fun h => ⟨_, rfl, hin h⟩⟩

/-! ### Accesses outside the interface (20_memory.md R82) -/

theorem not_accessOk {offset width : Nat} (h : width ≠ 32 ∨ offset % 4 ≠ 0) : ¬ accessOk offset width = true := by
  rw [accessOk_iff]
  rintro ⟨hw, ha, -⟩
  exact h.elim (absurd hw) (absurd ha)

/-- Settles O16: the check of the access comes before any effect. -/
theorem accessOutsideTheInterfaceRefused : Obligations.AccessOutsideTheInterfaceRefused := by
  unfold Obligations.AccessOutsideTheInterfaceRefused
  intro s offset width v rest h
  exact ⟨fun hi => (step_of_inputs_cons hi).trans (if_neg (not_accessOk h)),
    fun hi => (step_of_inputs_cons hi).trans (if_neg (not_accessOk h))⟩

/-! ### The two controllers as they take a stream (20_memory.md R104 (b), (c)) -/

/-- The controller stores a stream of bytes, one after the other. -/
def ControllerRecord.storeAll (data : List Byte) (r : ControllerRecord) : ControllerRecord :=
  data.foldl (fun r b => r.store b) r

@[simp] theorem ControllerRecord.storeAll_nil (r : ControllerRecord) : r.storeAll [] = r := rfl

@[simp] theorem ControllerRecord.storeAll_cons (b : Byte) (data : List Byte) (r : ControllerRecord) :
    r.storeAll (b :: data) = (r.store b).storeAll data := rfl

@[simp] theorem ControllerRecord.store_ptr (b : Byte) (r : ControllerRecord) : (r.store b).ptr = r.ptr + 1 := rfl

/-- The pointer counts the bytes of the stream. -/
theorem ControllerRecord.storeAll_ptr (data : List Byte) (r : ControllerRecord) :
    (r.storeAll data).ptr = r.ptr + data.length := by
  induction data generalizing r with
  | nil => rfl
  | cons b data ih =>
    rw [storeAll_cons, ih, store_ptr, List.length_cons]
    omega

theorem ControllerRecord.store_mem {r : ControllerRecord} (b : Byte) (h : r.ptr < Config.halfBytes) :
    (r.store b).mem = Cells.insert r.ptr b r.mem :=
  if_pos h

/-- A stream that fits leaves the bytes below the pointer. -/
theorem ControllerRecord.find_storeAll_below {data : List Byte} {r : ControllerRecord} {a : Nat} (ha : a < r.ptr)
    (hfit : r.ptr + data.length ≤ Config.halfBytes) :
    Cells.find (r.storeAll data).mem a = Cells.find r.mem a := by
  induction data generalizing r with
  | nil => rfl
  | cons b data ih =>
    rw [List.length_cons] at hfit
    rw [storeAll_cons, ih (by rw [store_ptr]; omega) (by rw [store_ptr]; omega), store_mem b (by omega),
      Cells.find_insert_other b r.mem (by omega)]

/-- Byte k of a stream that fits goes to the k-th place from the pointer. -/
theorem ControllerRecord.find_storeAll {data : List Byte} {r : ControllerRecord} {k : Nat} (hk : k < data.length)
    (hfit : r.ptr + data.length ≤ Config.halfBytes) :
    Cells.find (r.storeAll data).mem (r.ptr + k) = data[k]? := by
  induction data generalizing r k with
  | nil => contradiction
  | cons b data ih =>
    rw [List.length_cons] at hk hfit
    rw [storeAll_cons]
    cases k with
    | zero =>
      rw [find_storeAll_below (by rw [store_ptr]; omega) (by rw [store_ptr]; omega), store_mem b (by omega)]
      exact Cells.find_insert_same r.ptr b r.mem
    | succ k =>
      rw [List.getElem?_cons_succ, ← ih (r := r.store b) (by omega) (by rw [store_ptr]; omega), store_ptr,
        Nat.add_right_comm, Nat.add_assoc]

/-! ### The selected controllers (20_memory.md R104 (a)) -/

theorem Panel.onSelected_onSelected (f g f' g' : ControllerRecord → ControllerRecord) (p : Panel) :
    (p.onSelected f g).onSelected f' g' = p.onSelected (f' ∘ f) (g' ∘ g) := by
  cases p with | mk select => cases select <;> rfl

/-- Under a known selection what an unknown one would leave does not count. -/
theorem Panel.onSelected_of_known {p : Panel} (f g g' : ControllerRecord → ControllerRecord)
    (h : p.select ≠ .unknown) : p.onSelected f g = p.onSelected f g' := by
  unfold Panel.onSelected
  cases hs : p.select with
  | unknown => exact absurd hs h
  | both | master | slave => rfl

theorem Panel.onSelected_id (p : Panel) : p.onSelected id id = p := by
  cases p with | mk select => cases select <;> rfl

/-- A listening panel listens on where the selected controllers do what puts none to sleep. -/
theorem State.panelListens_of_onSelected {s : State} {p : Panel} {f g : ControllerRecord → ControllerRecord}
    (hs : s.panel = p.onSelected f g) (hf : ∀ r, (f r).mayBeAsleep = r.mayBeAsleep)
    (hg : ∀ r, (g r).mayBeAsleep = r.mayBeAsleep)
    (hp : p.master.mayBeAsleep = false ∧ p.slave.mayBeAsleep = false ∧ p.initMissed = false) :
    s.panelListens = true := by
  rw [panelListens_iff, hs, Panel.onSelected_master, Panel.onSelected_slave, Panel.onSelected_initMissed]
  cases p.select <;> simpa [hf, hg] using hp

/-! ### A selected stream (20_memory.md R104) -/

/-- MS_CTRL and one of its payloads set the selection. -/
theorem panel_of_select {s : State} {payload : Byte} (hl : s.panelListens = true)
    (hv : selectionOf payload ≠ .unknown) :
    (dataFrame payload (commandFrame 0xEE Panel.awaitSelector s)).panel =
      { s.panel with select := selectionOf payload, stream := .selected } := by
  have hp := commandFrame_panel_of_listens 0xEE Panel.awaitSelector hl
  have hl' : (commandFrame 0xEE Panel.awaitSelector s).panelListens = true := by
    rw [State.panelListens_iff, hp]
    exact s.panelListens_iff.mp hl
  rw [dataFrame_panel_of_listens payload hl', hp]
  simp only [Panel.takeData, Panel.awaitSelector]
  cases h : selectionOf payload with
  | unknown => contradiction
  | both | master | slave => rfl

/-- DTM under a known selection sets the selected controllers' pointers to 0. -/
theorem Panel.openStream_of_known {p : Panel} (h : p.select ≠ .unknown) :
    p.openStream = { p.onSelected .rewind id with stream := .memory } := by
  unfold Panel.openStream
  cases hs : p.select with
  | unknown => contradiction
  | both | master | slave => rfl

/-- The data bytes of an open stream are stored by the selected controllers. -/
theorem panel_of_stream {s : State} (data : List Byte) (hl : s.panelListens = true)
    (hs : s.panel.stream = .memory) (hv : s.panel.select ≠ .unknown) :
    (data.foldl (fun z b => dataFrame b z) s).panel = s.panel.onSelected (.storeAll data) id := by
  induction data generalizing s with
  | nil => exact s.panel.onSelected_id.symm
  | cons b data ih =>
    have hp : (dataFrame b s).panel = s.panel.onSelected (.store b) .forgetMemory := by
      rw [dataFrame_panel_of_listens b hl, Panel.takeData, hs]
    have hl' : (dataFrame b s).panelListens = true :=
      State.panelListens_of_onSelected hp (fun _ => rfl) (fun _ => rfl) (s.panelListens_iff.mp hl)
    rw [List.foldl_cons, ih hl' (by rw [hp, Panel.onSelected_stream, hs]) (by rwa [hp, Panel.onSelected_select]), hp,
      Panel.onSelected_onSelected]
    exact Panel.onSelected_of_known _ _ _ hv

/-- A select, a DTM and a stream: each selected controller stores the stream from its first byte on. -/
theorem panel_of_selected_stream {s : State} {payload : Byte} (data : List Byte) (hl : s.panelListens = true)
    (hv : selectionOf payload ≠ .unknown) :
    (data.foldl (fun z b => dataFrame b z)
      (commandFrame 0x10 Panel.openStream (dataFrame payload (commandFrame 0xEE Panel.awaitSelector s)))).panel =
      { s.panel with select := selectionOf payload, stream := .memory }.onSelected (.storeAll data ∘ .rewind) id := by
  have hu := panel_of_select hl hv
  generalize dataFrame payload (commandFrame 0xEE Panel.awaitSelector s) = u at hu
  have hlu : u.panelListens = true := by
    rw [State.panelListens_iff, hu]
    exact s.panelListens_iff.mp hl
  have hw : (commandFrame 0x10 Panel.openStream u).panel =
      { s.panel with select := selectionOf payload, stream := .memory }.onSelected .rewind id := by
    rw [commandFrame_panel_of_listens _ _ hlu, Panel.openStream_of_known (by rwa [hu]), hu]
    cases h : selectionOf payload <;> rfl
  generalize commandFrame 0x10 Panel.openStream u = w at hw
  have hlw : w.panelListens = true :=
    State.panelListens_of_onSelected hw (fun _ => rfl) (fun _ => rfl) (s.panelListens_iff.mp hl)
  rw [panel_of_stream data hlw (by rw [hw, Panel.onSelected_stream]) (by rwa [hw, Panel.onSelected_select]), hw,
    Panel.onSelected_onSelected]
  rfl

/-- A stream stored from the pointer 0 on. -/
theorem ControllerRecord.storeAll_rewind {data : List Byte} (r : ControllerRecord) (hfit : data.length ≤ 27200) :
    (r.rewind.storeAll data).ptr = data.length ∧
    ∀ k, k < data.length → Cells.find (r.rewind.storeAll data).mem k = data[k]? := by
  have hfit' : r.rewind.ptr + data.length ≤ Config.halfBytes := by simpa [rewind, Config.halfBytes] using hfit
  refine ⟨by rw [storeAll_ptr]; exact Nat.zero_add _, fun k hk => ?_⟩
  have h := find_storeAll hk hfit'
  rwa [show r.rewind.ptr + k = k from Nat.zero_add k] at h

/-- Settles O57: the selected controllers store the stream from the pointer 0 on, and the other one does nothing. -/
theorem selectedControllerTakesTheStream : Obligations.SelectedControllerTakesTheStream := by
  unfold Obligations.SelectedControllerTakesTheStream
  intro s payload data t u w x hl hfit hpay ht hu hw hx
  cases ht
  subst hu
  cases hw
  subst hx
  have hmaster := s.panel.master.storeAll_rewind hfit
  have hslave := s.panel.slave.storeAll_rewind hfit
  rcases hpay with rfl | rfl | rfl
  · rw [panel_of_selected_stream data hl (by decide)]
    exact ⟨fun _ => hmaster, fun _ => hslave, fun h => absurd h (by decide), fun h => absurd h (by decide)⟩
  · rw [panel_of_selected_stream data hl (by decide)]
    exact ⟨fun _ => hmaster, fun h => absurd h (by decide), fun _ => rfl, fun h => absurd h (by decide)⟩
  · rw [panel_of_selected_stream data hl (by decide)]
    exact ⟨fun h => absurd h (by decide), fun _ => hslave, fun h => absurd h (by decide), fun _ => rfl⟩

/-! ### PON, POF and DSLP (60_exceptions.md R340, 70_reset_and_hazards.md R373) -/

/-- A wire command other than DSLP is a command frame with its code. -/
theorem exec_eq_commandFrame {i : Instr} {code : Byte} (h : (i, code) ∈ Expect.wireCodes) (hi : i ≠ .dslp)
    (s : State) : ∃ effect, exec i s = .next (commandFrame code effect s) := by
  fin_cases h
  pick_goal 7
  · exact absurd rfl hi
  all_goals exact ⟨_, rfl⟩

theorem dataFrame_panel_of_deaf {s : State} (b : Byte) (h : s.panelTakesData = false) :
    (dataFrame b s).panel = s.panel.forget := by
  simp [dataFrame, h]

/-- After a DSLP command a controller may sleep, whichever was selected. -/
theorem State.panelFallsAsleep_panelListens (s : State) : s.panelFallsAsleep.panelListens = false := by
  rw [← Bool.not_eq_true, panelListens_iff, panelFallsAsleep_panel]
  simp only [Panel.fallAsleep, Panel.onSelected_master, Panel.onSelected_slave]
  cases s.panel.select <;> simp [ControllerRecord.fallAsleep]

/-- DSLP's own data byte leaves the controllers' records and closes the stream (44_protocol_operations.md R241). -/
theorem dataFrame_panel_of_sleep {s : State} (hs : s.panel.stream = .sleep) (hi : s.panel.initMissed = false) :
    (dataFrame Config.dslpParam s).panel = s.panel.closeStream := by
  simp [dataFrame, State.panelTakesData, hs, hi, Panel.takeData]

/-- A panel that does not listen, and does not wait for DSLP's data byte, takes no data. -/
theorem State.panelTakesData_eq_false {s : State} (hl : s.panelListens = false) (hs : s.panel.stream ≠ .sleep) :
    s.panelTakesData = false := by
  simp [panelTakesData, hl, hs]

/-- PON and POF set the power of the selected controllers. -/
theorem exec_power {s : State} {i : Instr} {v : Power} (hl : s.panelListens = true)
    (h : (i = .pon ∧ v = .on) ∨ (i = .pof ∧ v = .off)) :
    ∃ t, exec i s = .next t ∧ t.panel = s.panel.setPower v := by
  rcases h with ⟨rfl, rfl⟩ | ⟨rfl, rfl⟩
  · exact ⟨_, rfl, commandFrame_panel_of_listens 0x04 _ hl⟩
  · exact ⟨_, rfl, commandFrame_panel_of_listens 0x02 _ hl⟩

/-- DSLP reaches a panel that listens. -/
theorem panel_of_dslp {s : State} (hl : s.panelListens = true) :
    (commandFrame 0x07 Panel.closeStream s).panelFallsAsleep.panel = s.panel.fallAsleep := by
  rw [State.panelFallsAsleep_panel, commandFrame_panel_of_listens _ _ hl]
  cases hs : s.panel.select <;> simp [Panel.fallAsleep, Panel.closeStream, Panel.onSelected, hs]

/-- Settles O58: the commands act on the selected controllers, DSLP's own data byte is the last one a sleeping panel
takes, and a wire command that reaches a deaf panel leaves nothing known. -/
theorem panelPowerFollowsTheCommands : Obligations.PanelPowerFollowsTheCommands := by
  unfold Obligations.PanelPowerFollowsTheCommands
  intro s
  refine ⟨fun hl i v h => ?power, ⟨_, rfl, State.panelFallsAsleep_panelListens _, fun hl hsel => ?slaveKept,
    fun hl hsel => ?masterKept, fun hl => ?sleeping⟩, fun hl i code h hi => ?deaf⟩
  case power =>
    obtain ⟨t, he, ht⟩ := exec_power hl h
    refine ⟨t, he, ?_, ?_⟩ <;> rw [ht]
    · exact (Panel.onSelected_master _ _ _).trans (by cases s.panel.select <;> rfl)
    · exact (Panel.onSelected_slave _ _ _).trans (by cases s.panel.select <;> rfl)
  case slaveKept =>
    rw [panel_of_dslp hl]
    exact (Panel.onSelected_slave _ _ _).trans (by rw [hsel])
  case masterKept =>
    rw [panel_of_dslp hl]
    exact (Panel.onSelected_master _ _ _).trans (by rw [hsel])
  case sleeping =>
    have hdeaf := State.panelFallsAsleep_panelListens (commandFrame 0x07 Panel.closeStream s)
    have hp := panel_of_dslp hl
    generalize (commandFrame 0x07 Panel.closeStream s).panelFallsAsleep = t at hdeaf hp
    obtain ⟨-, -, hinit⟩ := s.panelListens_iff.mp hl
    have hd : (dataFrame 0xA5 t).panel = t.panel.closeStream :=
      dataFrame_panel_of_sleep (by rw [hp]; rfl) (by rw [hp]; simpa [Panel.fallAsleep] using hinit)
    have hdeaf' : (dataFrame 0xA5 t).panelTakesData = false := by
      refine State.panelTakesData_eq_false ?_ (by rw [hd]; exact Stream.noConfusion)
      rw [State.panelListens, hd]
      exact hdeaf
    refine ⟨by rw [hd]; rfl, by rw [hd]; rfl, fun b => ?_⟩
    rw [dataFrame_panel_of_deaf b hdeaf', hd]
    rfl
  case deaf =>
    obtain ⟨effect, he⟩ := exec_eq_commandFrame h hi s
    exact ⟨_, he, commandFrame_panel_of_deaf code effect hl⟩

end Sys2Proof.Machine

/-! Proofs of the family 30_encoding.md: the two formats field by field, the words that decode, and the assembly. -/

namespace Sys2Proof

open Machine

/-! ### Fields of a host request word (30_encoding.md R111) -/

/-- A host request word as a number: OP at bit 0, ARG at bit 8. -/
theorem hrwWord_toNat (op : BitVec 4) (arg : Byte) : (hrwWord op arg).toNat = op.toNat + 256 * arg.toNat := by
  have h : (hrwWord op arg).toNat = BitVec.toNat (w := 16 + 8 + 4 + 4) (0#16 ++ arg ++ 0#4 ++ op) := rfl
  rw [h]
  simp only [toNat_append_eq_add, BitVec.toNat_ofNat]
  omega

theorem hrwOp_toNat (w : Word) : (hrwOp w).toNat = w.toNat % 16 := by
  rw [hrwOp, BitVec.extractLsb'_toNat, Nat.shiftRight_zero]

theorem hrwRsv0_toNat (w : Word) : (hrwRsv0 w).toNat = w.toNat / 16 % 16 := by
  rw [hrwRsv0, BitVec.extractLsb'_toNat, Nat.shiftRight_eq_div_pow]

theorem hrwArg_toNat (w : Word) : (hrwArg w).toNat = w.toNat / 256 % 256 := by
  rw [hrwArg, BitVec.extractLsb'_toNat, Nat.shiftRight_eq_div_pow]

theorem hrwRsv1_toNat (w : Word) : (hrwRsv1 w).toNat = w.toNat / 65536 := by
  have := w.isLt
  rw [hrwRsv1, BitVec.extractLsb'_toNat, Nat.shiftRight_eq_div_pow]
  omega

theorem hrwRsv0_eq_zero_iff (w : Word) : hrwRsv0 w = 0 ↔ w.toNat / 16 % 16 = 0 := by
  rw [← hrwRsv0_toNat, BitVec.toNat_eq]
  rfl

theorem hrwRsv1_eq_zero_iff (w : Word) : hrwRsv1 w = 0 ↔ w.toNat / 65536 = 0 := by
  rw [← hrwRsv1_toNat, BitVec.toNat_eq]
  rfl

theorem hrwArg_eq_zero_iff (w : Word) : hrwArg w = 0 ↔ w.toNat / 256 % 256 = 0 := by
  rw [← hrwArg_toNat, BitVec.toNat_eq]
  rfl

@[simp] theorem hrwOp_hrwWord (op : BitVec 4) (arg : Byte) : hrwOp (hrwWord op arg) = op := by
  have := op.isLt
  exact BitVec.eq_of_toNat_eq (by rw [hrwOp_toNat, hrwWord_toNat]; omega)

@[simp] theorem hrwArg_hrwWord (op : BitVec 4) (arg : Byte) : hrwArg (hrwWord op arg) = arg := by
  have := op.isLt
  have := arg.isLt
  exact BitVec.eq_of_toNat_eq (by rw [hrwArg_toNat, hrwWord_toNat]; omega)

@[simp] theorem hrwRsv0_hrwWord (op : BitVec 4) (arg : Byte) : hrwRsv0 (hrwWord op arg) = 0 := by
  have := op.isLt
  rw [hrwRsv0_eq_zero_iff, hrwWord_toNat]
  omega

@[simp] theorem hrwRsv1_hrwWord (op : BitVec 4) (arg : Byte) : hrwRsv1 (hrwWord op arg) = 0 := by
  have := op.isLt
  have := arg.isLt
  rw [hrwRsv1_eq_zero_iff, hrwWord_toNat]
  omega

/-- A word whose reserved bits are 0 is made of its OP and its ARG (30_encoding.md R116). -/
theorem hrwWord_of_reserved_zero {w : Word} (h0 : hrwRsv0 w = 0) (h1 : hrwRsv1 w = 0) :
    hrwWord (hrwOp w) (hrwArg w) = w := by
  rw [hrwRsv0_eq_zero_iff] at h0
  rw [hrwRsv1_eq_zero_iff] at h1
  exact BitVec.eq_of_toNat_eq (by rw [hrwWord_toNat, hrwOp_toNat, hrwArg_toNat]; omega)

/-! ### Decode of a host request word (30_encoding.md R117) -/

theorem decodeRequest_hrwWord (op : BitVec 4) (arg : Byte) :
    decodeRequest (hrwWord op arg) = decodeOp op.toNat arg := by
  simp [decodeRequest]

/-- A word decodes where its reserved bits are 0 and its OP and ARG decode. -/
theorem decodeRequest_eq_ok_iff {w : Word} {i : Instr} :
    decodeRequest w = .ok i ↔
      hrwRsv1 w = 0 ∧ hrwRsv0 w = 0 ∧ decodeOp (hrwOp w).toNat (hrwArg w) = .ok i := by
  unfold decodeRequest
  split
  next h =>
    exact iff_of_false nofun fun ⟨h1, h0, _⟩ => h.elim (absurd h1) (absurd h0)
  next h =>
    obtain ⟨h1, h0⟩ : hrwRsv1 w = 0 ∧ hrwRsv0 w = 0 := by simpa using h
    simp [h1, h0]

theorem noOperand_eq_ok_iff {arg : Byte} {i j : Instr} : noOperand arg i = .ok j ↔ arg = 0 ∧ i = j := by
  unfold noOperand
  split
  next h => simp [h]
  next h => exact iff_of_false nofun fun h' => h h'.1

/-- The OPs of the table, and the ARG each admits (30_encoding.md R112, R115). -/
theorem exists_decodeOp_iff (op : Nat) (arg : Byte) :
    (∃ i, decodeOp op arg = .ok i) ↔ 1 ≤ op ∧ op ≤ 9 ∧ (arg = 0 ∨ op = 1 ∨ op = 3 ∨ op = 4) := by
  unfold decodeOp
  split
  case h_10 =>
    refine iff_of_false nofun fun ⟨h1, h9, _⟩ => ?_
    interval_cases op <;> contradiction
  all_goals simp [noOperand_eq_ok_iff]

/-- The words that decode are those 30_encoding.md R118 does not list. -/
theorem exists_decodeRequest_iff (w : Word) : (∃ i, decodeRequest w = .ok i) ↔ ¬ illegalWord w := by
  simp only [decodeRequest_eq_ok_iff, exists_and_left, exists_decodeOp_iff, hrwRsv1_eq_zero_iff,
    hrwRsv0_eq_zero_iff, hrwArg_eq_zero_iff, hrwOp_toNat, illegalWord]
  omega

/-- What an OP and an ARG decode to is encoded with them. -/
theorem encode_of_decodeOp {op : Nat} {arg : Byte} {i : Instr} (h : decodeOp op arg = .ok i) :
    encode i = .hrw (hrwWord (BitVec.ofNat 4 op) arg) := by
  unfold decodeOp at h
  split at h
  case h_1 | h_3 | h_4 => cases h; rfl
  case h_10 => contradiction
  all_goals
    obtain ⟨rfl, rfl⟩ := noOperand_eq_ok_iff.mp h
    rfl

theorem encode_of_decodeRequest {w : Word} {i : Instr} (h : decodeRequest w = .ok i) : encode i = .hrw w := by
  obtain ⟨h1, h0, hop⟩ := decodeRequest_eq_ok_iff.mp h
  rw [encode_of_decodeOp hop, BitVec.ofNat_toNat, BitVec.setWidth_eq, hrwWord_of_reserved_zero h0 h1]

/-! ### Decode of a wire frame (30_encoding.md R119, R120) -/

/-- A frame is made of its DC level and its byte. -/
theorem wireFrame_of_fields (f : BitVec 9) : wireFrame (frameIsData f) (frameByte f) = f := by
  refine BitVec.eq_of_getLsbD_eq fun i hi => ?_
  rw [wireFrame_getLsbD]
  split
  next hlt => simp [frameByte, hlt]
  next hge =>
    obtain rfl : i = 8 := by omega
    simp [frameIsData]

theorem frameIsData_of_decodeFrame {f : BitVec 9} {i : Instr} (h : decodeFrame f = .ok i) : frameIsData f = false := by
  unfold decodeFrame at h
  split at h
  next => contradiction
  next hd => simpa using hd

/-- A listed byte with DC Low decodes to its command. -/
theorem decodeFrame_of_wireCommand {b : Byte} {i : Instr} (h : wireCommand b.toNat = some i) :
    decodeFrame (wireFrame false b) = .ok i := by
  simp [decodeFrame, frameIsData_wireFrame, frameByte_wireFrame, h]

theorem encode_of_wireCommand {code : Nat} {i : Instr} (h : wireCommand code = some i) :
    encode i = .wf (wireFrame false (BitVec.ofNat 8 code)) := by
  unfold wireCommand at h
  split at h
  case h_21 => contradiction
  all_goals cases h; rfl

theorem encode_of_decodeFrame {f : BitVec 9} {i : Instr} (h : decodeFrame f = .ok i) : encode i = .wf f := by
  rw [encode_of_wireCommand (wireCommand_of_decodeFrame h), BitVec.ofNat_toNat, BitVec.setWidth_eq,
    ← frameIsData_of_decodeFrame h, wireFrame_of_fields]

/-! ### Decode and encode agree -/

/-- Settles O1: a request decodes by its OP and its ARG, a wire command by its code. -/
theorem decodeOfEncodeIsTheInstruction : Obligations.DecodeOfEncodeIsTheInstruction := by
  unfold Obligations.DecodeOfEncodeIsTheInstruction
  intro i
  cases i with
  | init | reset | sendCmd | sendData | waitIdle | clear | frameH | frameV | displaySleep =>
    exact decodeRequest_hrwWord _ _
  | psr | pwr | pof | pfs | pon | btst | dslp | dtm | drf | pll | tse | cdi | tcon | tres | htotal | gsst | ccset | pws
  | msCtrl | vendorE9 => exact decodeFrame_of_wireCommand rfl

/-- Settles O2: in either format a word that decodes has its reserved bits 0, so its fields make it up. -/
theorem encodeOfDecodeIsTheWord : Obligations.EncodeOfDecodeIsTheWord := by
  unfold Obligations.EncodeOfDecodeIsTheWord
  intro e i h
  cases e with
  | hrw w => exact encode_of_decodeRequest h
  | wf f => exact encode_of_decodeFrame h

/-- Settles O3: the words run through the decoder. -/
theorem specWordsDecode : Obligations.SpecWordsDecode := by
  unfold Obligations.SpecWordsDecode
  decide

end Sys2Proof

namespace Sys2Proof.Machine

/-! ### Illegal words (30_encoding.md R118) -/

/-- A CMD write of an illegal word is turned away undecoded, whatever makes it illegal. -/
theorem writeCmd_of_illegalWord {w : Word} (s : State) (h : illegalWord w) :
    writeCmd w s = .next (illegalRequest s) := by
  unfold writeCmd
  cases hd : decodeRequest w with
  | ok i => exact absurd h ((exists_decodeRequest_iff w).mp ⟨i, hd⟩)
  | error => rfl

theorem illegalRequest_of_idle {s : State} (ha : s.status.active = false) : illegalRequest s = s.reject .errOp := by
  simp [illegalRequest, ha]

/-- Settles O4: an illegal word is one that does not decode, and an idle engine rejects it. -/
theorem illegalWordRejected : Obligations.IllegalWordRejected := by
  unfold Obligations.IllegalWordRejected
  refine ⟨fun s w rest hi ha hw => ?rejected, fun w hw => (exists_decodeRequest_iff w).mpr hw⟩
  case rejected =>
    rw [step_write hi rfl]
    exact (writeCmd_of_illegalWord _ hw).trans (congrArg Host.Outcome.next (illegalRequest_of_idle ha))

/-! ### The meaning of a wire command (30_encoding.md R120) -/

/-- The list of codes and the decoder's table agree. -/
theorem wireCommand_of_mem_wireCodes : ∀ p ∈ Expect.wireCodes, wireCommand p.2.toNat = some p.1 := by decide

/-- Settles O10: the meaning of the command its code decodes to sends that code. -/
theorem wireCommandSendsItsCode : Obligations.WireCommandSendsItsCode := by
  unfold Obligations.WireCommandSendsItsCode
  intro s i code h
  obtain ⟨p, hp⟩ := exec_wire s (wireCommand_of_mem_wireCodes _ h)
  exact ⟨_, hp, by simp⟩

/-! ### INIT's operand (30_encoding.md R113) -/

theorem orientationOf_eq_none {arg : Byte} (h : arg.toNat = 0 ∨ 5 ≤ arg.toNat) : orientationOf arg = none := by
  unfold orientationOf
  split
  case h_5 => rfl
  all_goals omega

/-- Settles O19: the orientation is the first check of a request. -/
theorem invalidOrientationRejected : Obligations.InvalidOrientationRejected := by
  unfold Obligations.InvalidOrientationRejected
  intro s arg ha h
  have he : requestError .init arg s = some .errOrient := if_pos ⟨rfl, orientationOf_eq_none h⟩
  exact congrArg Host.Outcome.next (request_eq_reject ha he)

/-! ### The assembly (30_encoding.md R125-R132) -/

theorem assemble_op_of_encode {i : Instr} {w : Word} (h : encode i = .hrw w) :
    assemble (.op i) = [.write 0x00 32 w, .sync] := by
  simp [assemble, h]

/-- Settles O59: a request is written and waited for, and a round of the wait is one read of STATUS. -/
theorem syncReadsStatusUntilIdle : Obligations.SyncReadsStatusUntilIdle := by
  unfold Obligations.SyncReadsStatusUntilIdle
  refine ⟨fun i w => assemble_op_of_encode, fun s rest hi => ?_⟩
  have hstep : step s = .next (syncRound { s with inputs := rest }) := step_of_inputs_cons hi
  rw [hstep]
  exact ⟨fun ha => by simp [syncRound, ha], fun ha => by simp [syncRound, ha]⟩

theorem validOrientationArg_iff (arg : Byte) : validOrientationArg arg = true ↔ 1 ≤ arg.toNat ∧ arg.toNat ≤ 4 := by
  simp [validOrientationArg]

/-- Settles O60: `init` with a direction in range is its operation; the other commands have one expansion each. -/
theorem operatorCommandsExpand : Obligations.OperatorCommandsExpand := by
  unfold Obligations.OperatorCommandsExpand
  refine ⟨fun _ _ => rfl, fun d h1 h4 => ?init, rfl, rfl, rfl, rfl, rfl, rfl, fun _ => rfl⟩
  case init => exact if_pos ((validOrientationArg_iff d).mpr ⟨h1, h4⟩)

end Sys2Proof.Machine

/-! Proofs of the family 41_color_codec.md: the lane codes, and the byte as its four lanes. -/

namespace Sys2Proof.Machine

/-! ### The lane codes (41_color_codec.md R150, R151, R155) -/

theorem encodeLane_toNat : ∀ x : BitVec 2, (encodeLane x).toNat = (x.toNat + 1) % 4 := by decide

theorem decodeLane_encodeLane : Function.LeftInverse decodeLane encodeLane := by
  unfold Function.LeftInverse
  decide

theorem encodeLane_decodeLane : Function.LeftInverse encodeLane decodeLane := by
  unfold Function.LeftInverse
  decide

/-- Settles O37: the closed form holds of each of the four indices, and the table is the definition's own. -/
theorem encodeIsTheLaneTable : Obligations.EncodeIsTheLaneTable := by
  unfold Obligations.EncodeIsTheLaneTable
  exact ⟨encodeLane_toNat, rfl, rfl, rfl, rfl⟩

/-! ### A byte and its four lanes (41_color_codec.md R153, R154) -/

theorem lane_append (a b c d : BitVec 2) :
    lane 0 (a ++ b ++ c ++ d) = a ∧ lane 1 (a ++ b ++ c ++ d) = b ∧
    lane 2 (a ++ b ++ c ++ d) = c ∧ lane 3 (a ++ b ++ c ++ d) = d := by
  unfold lane
  refine ⟨?_, ?_, ?_, ?_⟩
  · rw [BitVec.extractLsb'_append_eq_of_le (by decide), BitVec.extractLsb'_append_eq_of_le (by decide),
      BitVec.extractLsb'_append_eq_left]
  · rw [BitVec.extractLsb'_append_eq_of_le (by decide), BitVec.extractLsb'_append_eq_of_le (by decide),
      BitVec.extractLsb'_append_eq_right]
  · rw [BitVec.extractLsb'_append_eq_of_le (by decide), BitVec.extractLsb'_append_eq_right]
  · rw [BitVec.extractLsb'_append_eq_right]

theorem append_lanes (s : Byte) : lane 0 s ++ lane 1 s ++ lane 2 s ++ lane 3 s = s := by
  unfold lane
  rw [BitVec.extractLsb'_append_extractLsb'_eq_extractLsb' (by rfl),
    BitVec.extractLsb'_append_extractLsb'_eq_extractLsb' (by rfl),
    BitVec.extractLsb'_append_extractLsb'_eq_extractLsb' (by rfl), BitVec.extractLsb'_eq_self]

theorem lane_mapLanes (f : BitVec 2 → BitVec 2) (s : Byte) {i : Nat} (hi : i < 4) :
    lane i (mapLanes f s) = f (lane i s) := by
  obtain ⟨h0, h1, h2, h3⟩ := lane_append (f (lane 0 s)) (f (lane 1 s)) (f (lane 2 s)) (f (lane 3 s))
  match i, hi with
  | 0, _ => exact h0
  | 1, _ => exact h1
  | 2, _ => exact h2
  | 3, _ => exact h3

/-- A lane code that inverts another does so on bytes, for a byte is the four lanes it is mapped in. -/
theorem mapLanes_leftInverse {f g : BitVec 2 → BitVec 2} (h : Function.LeftInverse g f) :
    Function.LeftInverse (mapLanes g) (mapLanes f) := by
  intro s
  have hlane : ∀ i, i < 4 → g (lane i (mapLanes f s)) = lane i s := fun i hi => by rw [lane_mapLanes f s hi, h]
  calc mapLanes g (mapLanes f s)
    _ = lane 0 s ++ lane 1 s ++ lane 2 s ++ lane 3 s := by
      rw [mapLanes, hlane 0 (by decide), hlane 1 (by decide), hlane 2 (by decide), hlane 3 (by decide)]
    _ = s := append_lanes s

/-- Settles O38: EncByte and DecByte map the lanes by two codes inverse to each other. -/
theorem encByteIsLaneWiseBijection : Obligations.EncByteIsLaneWiseBijection := by
  unfold Obligations.EncByteIsLaneWiseBijection
  exact ⟨fun s _ => lane_mapLanes encodeLane s, mapLanes_leftInverse decodeLane_encodeLane,
    mapLanes_leftInverse encodeLane_decodeLane⟩

end Sys2Proof.Machine

/-! Proofs of the family 42_frame_partitioner.md: both halves of a block read one line of 2L - O bytes, half B from byte
L - O on, and under either split the offsets are the numbers of the bytes of the lines. -/

namespace Sys2Proof.Machine

/-! ### The offsets as bytes of a line (42_frame_partitioner.md R176-R179) -/

/-- The byte of its block's line at which a half begins. -/
def halfStart : Half → Nat
  | .a => 0
  | .b => 98

/-- The source offset of byte k of the line of block b: the line is contiguous under the column split, and has one byte
in every C under the row split. -/
def lineOffset (split : Split) (b k : Nat) : Nat :=
  match split with
  | .column => b * 198 + k
  | .row => k * 272 + b

theorem sourceOffset_eq_lineOffset {p : Params} (hg : p.specGeometry) (split : Split) (h : Half) (b j : Nat) :
    sourceOffset split p h b j = lineOffset split b (halfStart h + j) := by
  obtain ⟨hp, ho⟩ : p.pitch = 198 ∧ p.halfBOffset = 98 := hg
  cases split with
  | column => cases h <;> simp [sourceOffset, offH, lineOffset, halfStart, hp, ho, Nat.add_assoc]
  | row => cases h <;> simp [sourceOffset, offV, lineOffset, halfStart, ho, Config.columnBytes]

/-- Settles O39: the offsets are those of the bytes of the line, half B's from byte 98 on. -/
theorem sourceOffsets : Obligations.SourceOffsets := by
  unfold Obligations.SourceOffsets
  intro p b j hg
  simp [sourceOffset_eq_lineOffset hg, lineOffset, halfStart, Nat.add_assoc]

/-! ### The seam (42_frame_partitioner.md R182, R183) -/

/-- Settles O40: bytes 98 and 99 of half A are bytes 0 and 1 of half B, as O39 gives the offsets of both. -/
theorem seamBytesAgree : Obligations.SeamBytesAgree := by
  unfold Obligations.SeamBytesAgree
  intro p b hg
  have hoff (j : Nat) : offH p .a b j = b * 198 + j ∧ offH p .b b j = b * 198 + 98 + j ∧
      offV p .a b j = j * 272 + b ∧ offV p .b b j = (98 + j) * 272 + b := sourceOffsets p b j hg
  simp [hoff]

/-! ### Coverage (42_frame_partitioner.md R184) -/

theorem exists_lineOffset_eq (split : Split) {off : Nat} (hoff : off < 53856) :
    ∃ b k, b < 272 ∧ k < 198 ∧ lineOffset split b k = off := by
  cases split with
  | column => exact ⟨off / 198, off % 198, by omega, by omega, Nat.div_add_mod' off 198⟩
  | row => exact ⟨off % 272, off / 272, by omega, by omega, Nat.div_add_mod' off 272⟩

theorem lineOffset_inj {split : Split} {b k b' k' : Nat} (hb : b < 272) (hk : k < 198) (hb' : b' < 272) (hk' : k' < 198)
    (h : lineOffset split b k = lineOffset split b' k') : b = b' ∧ k = k' := by
  cases split with
  | column =>
    have : b * 198 + k = b' * 198 + k' := h
    omega
  | row =>
    have : k * 272 + b = k' * 272 + b' := h
    omega

theorem halfStart_add_lt (h : Half) {j : Nat} (hj : j < 100) : halfStart h + j < 198 := by
  cases h <;> simp only [halfStart] <;> omega

/-- Half A holds the first 100 bytes of a line and half B the rest. -/
theorem exists_halfStart_add_eq {k : Nat} (hk : k < 198) : ∃ h j, j < 100 ∧ halfStart h + j = k := by
  by_cases hA : k < 100
  · exact ⟨.a, k, hA, Nat.zero_add k⟩
  · have hB : 98 + (k - 98) = k := by omega
    exact ⟨.b, k - 98, by omega, hB⟩

theorem eq_or_seam_of_halfStart_add_eq {h h' : Half} {j j' : Nat} (he : halfStart h + j = halfStart h' + j') :
    (h = h' ∧ j = j') ∨ (h = .a ∧ h' = .b ∧ j = j' + 98) ∨ (h = .b ∧ h' = .a ∧ j' = j + 98) := by
  match h, h', he with
  | .a, .a, he => exact .inl ⟨rfl, Nat.add_left_cancel he⟩
  | .b, .b, he => exact .inl ⟨rfl, Nat.add_left_cancel he⟩
  | .a, .b, he =>
    have hj : j = j' + 98 := by simp only [halfStart] at he; omega
    exact .inr (.inl ⟨rfl, rfl, hj⟩)
  | .b, .a, he =>
    have hj : j' = j + 98 := by simp only [halfStart] at he; omega
    exact .inr (.inr ⟨rfl, rfl, hj⟩)

/-- Settles O41: the bytes of the lines are numbered one to one by the offsets below FB_LEN, so two positions share an
offset only where both halves hold one byte of a line. -/
theorem partitionCoversTheBuffer : Obligations.PartitionCoversTheBuffer := by
  unfold Obligations.PartitionCoversTheBuffer
  intro p split hg
  refine ⟨fun off hoff => ?covered, fun h b j hb hj => ?bounded, fun h b j h' b' j' hb hj hb' hj' he hne => ?shared⟩
  case covered =>
    obtain ⟨b, k, hb, hk, hbk⟩ := exists_lineOffset_eq split hoff
    obtain ⟨h, j, hj, hhj⟩ := exists_halfStart_add_eq hk
    exact ⟨h, b, j, hb, hj, by rw [sourceOffset_eq_lineOffset hg, hhj, hbk]⟩
  case bounded => exact fbLen_of_specGeometry hg ▸ sourceOffset_lt_fbLen hg split h hb hj
  case shared =>
    rw [sourceOffset_eq_lineOffset hg, sourceOffset_eq_lineOffset hg] at he
    obtain ⟨rfl, hk⟩ := lineOffset_inj hb (halfStart_add_lt h hj) hb' (halfStart_add_lt h' hj') he
    obtain ⟨rfl, rfl⟩ | hseam := eq_or_seam_of_halfStart_add_eq hk
    · exact absurd rfl hne
    · exact ⟨rfl, hseam⟩

/-! ### The selectors of the halves (42_frame_partitioner.md R172-R175) -/

theorem selector_of_controllerA_slave {p : Params} {o : Orientation} (h : controllerA p o = .slave) :
    selector p o .a = 0x06 ∧ selector p o .b = 0x05 := by
  simp [selector, h, otherController, Config.selOf]

theorem selector_of_controllerA_master {p : Params} {o : Orientation} (h : controllerA p o = .master) :
    selector p o .a = 0x05 ∧ selector p o .b = 0x06 := by
  simp [selector, h, otherController, Config.selOf]

/-- Settles O42: the orientation gives half A's controller, under Up VSEL_UP_A and under Down the opposite, and with it
both selectors. -/
theorem halfSelectors : Obligations.HalfSelectors := by
  unfold Obligations.HalfSelectors
  intro p
  refine ⟨rfl, rfl, rfl, rfl, fun hv => ?slave, fun hv => ?master⟩
  case slave =>
    obtain ⟨hupA, hupB⟩ := selector_of_controllerA_slave (p := p) (o := .up) hv
    exact ⟨hupA, hupB, selector_of_controllerA_master (congrArg otherController hv)⟩
  case master =>
    obtain ⟨hupA, hupB⟩ := selector_of_controllerA_master (p := p) (o := .up) hv
    exact ⟨hupA, hupB, selector_of_controllerA_slave (congrArg otherController hv)⟩

end Sys2Proof.Machine

/-! Proofs of the family 43_protocol_primitives.md: every step keeps framing exclusive; and an operation run line by line, as
the lines that remain of its program: a byte is its frame, a wait its poll rounds and a last read, a reset pulse its four
events. -/

namespace Sys2Proof.Machine

/-! ### Framing is exclusive (43_protocol_primitives.md R203) -/

/-- Every byte of the stream, newest event first, follows directly on a DC write. -/
def FramedStream (tr : List Event) : Prop :=
  ∀ newer b older, tr = newer ++ Event.spi b :: older → ∃ lvl rest, older = Event.pinWrite .dc lvl :: rest

theorem FramedStream.cons {e : Event} {tr : List Event} (h : FramedStream tr)
    (he : ∀ b, e = .spi b → ∃ lvl rest, tr = .pinWrite .dc lvl :: rest) : FramedStream (e :: tr) := by
  intro newer b older htr
  cases newer with
  | nil =>
    obtain ⟨rfl, rfl⟩ := List.cons_eq_cons.mp htr
    exact he b rfl
  | cons x newer => exact h newer b older (List.cons_eq_cons.mp htr).2

/-- Framing looks at the stream, at DC and at whether a byte is due. -/
theorem Framed.congr {s t : State} (hf : Framed s) (htr : t.trace = s.trace) (hdc : t.dc = s.dc)
    (ha : t.status.active = s.status.active) (hb : t.seq.beat = s.seq.beat) : Framed t where
  sends := by rw [htr]; exact hf.sends
  due := by rw [htr, hdc, ha, hb]; exact hf.due

/-- A step that emits no byte and leaves none due keeps framing. -/
theorem Framed.of_silent {s t : State} {e : Option Event} (hf : Framed s) (htr : t.trace = e.toList ++ s.trace)
    (he : ∀ b, e ≠ some (.spi b)) (hb : t.status.active = true → t.seq.beat ≠ .framed) : Framed t where
  sends := by
    rw [htr]
    cases e with
    | none => exact hf.sends
    | some x => exact FramedStream.cons hf.sends fun b hx => absurd (congrArg some hx) (he b)
  due ha hbeat := absurd hbeat (hb ha)

/-- One BUSY read, the first one of a wait or a later one. -/
theorem Framed.pollBusy {s u : State} (hf : Framed s) (htr : u.trace = s.trace) : Framed (pollBusy u) := by
  rcases pollBusy_cases u with ⟨-, h⟩ | ⟨-, -, -, h⟩ | ⟨-, -, h⟩ <;> rw [h]
  · exact hf.of_silent (e := some (.pinRead .high)) (by simp [htr]) (by simp) (by simp)
  · exact hf.of_silent (e := some (.pinRead .low)) (by simp [htr]) (by simp) (by simp)
  · exact hf.of_silent (e := some (.pinRead .low)) (by simp [htr]) (by simp) (by simp)

theorem Framed.waitStep {s : State} (hf : Framed s) : Framed (waitStep s) := by
  rcases waitStep_cases s with ⟨-, h⟩ | ⟨-, h⟩ | ⟨-, -, h⟩ <;> rw [h]
  · exact hf.of_silent (e := some (.delay Config.pollMs)) rfl (by simp) (by simp)
  · exact hf.pollBusy rfl
  · exact hf.pollBusy rfl

/-- A byte goes out only where it is due, so that its DC write is the newest event; and only a DC write makes one due. -/
theorem EngineMove.framed {s t : State} (hf : Framed s) (h : EngineMove s t) : Framed t := by
  cases h with
  | idle => exact hf
  | ended => exact hf.of_silent (e := none) (by simp) (by simp) (by simp [endOperation_status, Status.ended])
  | setupOk => exact hf.of_silent (e := some (.setup true)) (by simp) (by simp) (by simp)
  | setupFail => exact hf.of_silent (e := some (.setup false)) (by simp) (by simp) (by simp)
  | rst lvl =>
    refine hf.of_silent (e := some (.pinWrite .rst lvl)) ?_ (by simp) ?_ <;> cases lvl <;> simp [rstStep]
  | delay ms => exact hf.of_silent (e := some (.delay ms)) (by simp) (by simp) (by simp)
  | wait => exact hf.waitStep
  | dc lvl => exact ⟨FramedStream.cons hf.sends (by simp), fun _ _ => ⟨s.trace, rfl⟩⟩
  | byte b p after ha hbeat hd =>
    obtain ⟨rest, hdc⟩ := hf.due ha hbeat
    constructor
    case sends =>
      rw [hd.trace]
      exact FramedStream.cons hf.sends fun _ _ => ⟨s.dc, rest, hdc⟩
    case due => simp [hd.beat]
  | fetch split half v d a => exact hf.of_silent (e := some (.fbRead a)) rfl (by simp) (by simp)

theorem Framed.request {s : State} (hf : Framed s) (op : Op) (arg : Byte) : Framed (request op arg s) := by
  rcases request_cases op arg s with ⟨-, h⟩ | ⟨-, code, -, h⟩ | ⟨-, -, h⟩ <;> rw [h]
  · exact hf.congr rfl rfl rfl rfl
  · exact hf.congr rfl rfl rfl rfl
  · exact hf.of_silent (e := none) rfl (by simp) (by simp)

theorem HostMove.framed {s t : State} (hf : Framed s) (h : HostMove s t) : Framed t := by
  cases h with
  | request op arg => exact hf.request op arg
  | illegal => unfold illegalRequest; split <;> exact hf.congr rfl rfl rfl rfl
  | status v => unfold writeStatus; split <;> exact hf.congr rfl rfl rfl rfl
  | fbBase | waitLimit | ignored | read | sync => exact hf.congr rfl rfl rfl rfl

/-- Settles O48: the engine's moves keep framing, and no action of the host emits an event or makes a byte due. -/
theorem stepKeepsFraming : Obligations.StepKeepsFraming := by
  unfold Obligations.StepKeepsFraming
  intro s t hf h
  rcases step_cases h with ⟨-, hm⟩ | ⟨a, rest, -, hh⟩
  · exact hm.framed hf
  · have hf' : Framed { s with inputs := rest } := hf.congr rfl rfl rfl rfl
    rcases hostStep_cases hh with ⟨hm, -⟩ | ⟨addr, v, -, rfl⟩ | ⟨-, rfl⟩ | ⟨-, hm⟩
    · exact hm.framed hf'
    · exact hf'.congr rfl rfl rfl rfl
    · exact hf'.of_silent (e := none) rfl (by simp) (by simp [engineReset, Status.reset])
    · exact hm.framed hf'

/-! ### An operation as the lines that remain of its program (10_state.md R33, R34) -/

/-- An operation runs, every step is left to it, and these lines of its program remain, the one it stands at first. -/
structure Runs (lines : List Item) (s : State) : Prop where
  quiet : s.inputs = []
  active : s.status.active = true
  remaining : (program s).drop s.seq.item = lines

theorem Runs.line_eq {lines : List Item} {s : State} (h : Runs lines s) : s.line = lines.head? := by
  rw [← h.remaining, List.head?_drop]
  rfl

theorem Runs.of_line {i : Item} {s : State} (hi : s.inputs = []) (ha : s.status.active = true)
    (hl : (program s)[s.seq.item]? = some i) : Runs (i :: (program s).drop (s.seq.item + 1)) s := by
  obtain ⟨hlt, hget⟩ := List.getElem?_eq_some_iff.mp hl
  exact ⟨hi, ha, by rw [← hget, List.drop_eq_getElem_cons hlt]⟩

/-- A step is that of the first line that remains. -/
theorem Runs.step_cons {i : Item} {l : List Item} {s : State} (h : Runs (i :: l) s) : step s = itemStep i s :=
  (step_of_inputs_nil h.quiet).trans (engineStep_of_line h.active h.line_eq)

/-- With no line left a step ends the operation (70_reset_and_hazards.md R377). -/
theorem Runs.step_nil {s : State} (h : Runs [] s) : step s = .next (endOperation s) :=
  (step_of_inputs_nil h.quiet).trans (engineStep_of_line_none h.active h.line_eq)

theorem Runs.congr {lines : List Item} {s t : State} (h : Runs lines s) (hi : t.inputs = s.inputs)
    (ha : t.status.active = s.status.active) (hp : program t = program s) (hn : t.seq.item = s.seq.item) :
    Runs lines t :=
  ⟨hi.trans h.quiet, ha.trans h.active, by rw [hp, hn, h.remaining]⟩

theorem Runs.nextItem {i : Item} {l : List Item} {s : State} (h : Runs (i :: l) s) : Runs l s.nextItem := by
  refine ⟨h.quiet, h.active, ?_⟩
  show (program s).drop (s.seq.item + 1) = l
  rw [← List.drop_drop, h.remaining, List.drop_one, List.tail_cons]

/-- An accepted operation has its whole program before it. -/
theorem Runs.accept {s : State} (h : Idle s) (op : Op) (arg : Byte) :
    Runs (program (s.accept op arg)) (s.accept op arg) :=
  ⟨h.2, rfl, rfl⟩

/-- A request other than INIT and the FRAME ops is accepted where the setup is done and, if it writes the bus, PSTATE is not
DEEP_SLEEP (60_exceptions.md R323). -/
theorem request_eq_accept_of_setUp {op : Op} {arg : Byte} {s : State} (hidle : Idle s) (hi : op ≠ .init)
    (hf : op.isFrame = false) (hset : s.status.tsetupOk = true)
    (hawake : op.busWrite = true → s.status.pstate ≠ .deepSleep) : request op arg s = s.accept op arg := by
  have hvar : op.variantOk s.status.orient = true := by
    cases op with
    | frameH | frameV => contradiction
    | _ => rfl
  have he : requestError op arg s = none := by simpa [requestError, hi, hf, hset, hvar] using hawake
  exact request_eq_accept hidle.1 he

/-! ### Frames (43_protocol_primitives.md R201, R202) -/

/-- A byte has been sent as a frame, and the sequencer has gone on to the next line. -/
def State.sent (lvl : Level) (b : Byte) (p : Panel) (s : State) : State :=
  State.nextItem { s with dc := lvl, trace := .spi b :: .pinWrite .dc lvl :: s.trace, panel := p }

theorem Runs.sent {i : Item} {l : List Item} {s : State} (h : Runs (i :: l) s) (lvl : Level) (b : Byte) (p : Panel) :
    Runs l (s.sent lvl b p) :=
  Runs.nextItem (i := i) (h.congr rfl rfl rfl rfl)

/-- A line that sends a byte takes two steps: the DC write, and the byte. -/
theorem Runs.frame {i : Item} {l : List Item} {s : State} {lvl : Level} {b : Byte} (h : Runs (i :: l) s)
    (hi : itemStep i = sendByte lvl b State.nextItem) (hb : s.seq.beat = .start) :
    step s = .next ((s.writeDc lvl).setBeat .framed) ∧
    ∃ p, step ((s.writeDc lvl).setBeat .framed) = .next (s.sent lvl b p) := by
  have h' : Runs (i :: l) ((s.writeDc lvl).setBeat .framed) := h.congr rfl rfl rfl rfl
  rw [h.step_cons, h'.step_cons, hi]
  constructor
  · rw [sendByte, hb]
  · rcases sendByte_cases lvl b State.nextItem ((s.writeDc lvl).setBeat .framed) with ⟨hne, -⟩ | ⟨-, p, hp⟩
    · exact absurd rfl hne
    · exact ⟨p, hp⟩

/-- From the first event of a line the byte leaves the sequencer at the first event of the next. -/
theorem State.sent_of_start {s : State} (lvl : Level) (b : Byte) (p : Panel) (hb : s.seq.beat = .start) :
    s.sent lvl b p = { s with
      seq := { s.seq with item := s.seq.item + 1, b := 0, j := 0, k := 0, n := 0 }
      dc := lvl, trace := .spi b :: .pinWrite .dc lvl :: s.trace, panel := p } := by
  rw [sent, nextItem, ← hb]

/-- Settles O8: the line sends its byte as a frame with DC Low. -/
theorem sendCommandFramesOneByte : Obligations.SendCommandFramesOneByte := by
  unfold Obligations.SendCommandFramesOneByte
  intro s b hi ha hl hb
  obtain ⟨hdc, p, hbyte⟩ := (Runs.of_line hi ha hl).frame rfl hb
  exact ⟨_, _, hdc, rfl, hbyte, State.sent_of_start _ b p hb⟩

/-- Settles O9: the line sends its byte as a frame with DC High. -/
theorem sendDataFramesOneByte : Obligations.SendDataFramesOneByte := by
  unfold Obligations.SendDataFramesOneByte
  intro s b hi ha hl hb
  obtain ⟨hdc, p, hbyte⟩ := (Runs.of_line hi ha hl).frame rfl hb
  exact ⟨_, _, hdc, rfl, hbyte, State.sent_of_start _ b p hb⟩

/-- An operation of one frame runs to its end in three steps. -/
theorem Runs.run_frame {i : Item} {s : State} {lvl : Level} {b : Byte} (h : Runs [i] s)
    (hi : itemStep i = sendByte lvl b State.nextItem) (hb : s.seq.beat = .start) :
    ∃ p, run 3 s = .next (endOperation (s.sent lvl b p)) := by
  obtain ⟨hdc, p, hbyte⟩ := h.frame hi hb
  exact ⟨p, by rw [run_succ hdc, run_succ hbyte, run_succ (h.sent lvl b p).step_nil, run_zero]⟩

/-- Settles O26: the request passes its checks, and its program is one frame with DC Low. -/
theorem sendCmdRuns : Obligations.SendCmdRuns := by
  unfold Obligations.SendCmdRuns
  intro s b hidle hset hawake
  have hacc : request .sendCmd b s = s.accept .sendCmd b :=
    request_eq_accept_of_setUp hidle (by decide) rfl hset fun _ => hawake
  obtain ⟨p, hrun⟩ := (Runs.accept hidle .sendCmd b).run_frame rfl rfl
  exact ⟨_, _, congrArg Host.Outcome.next hacc, accepted_accept .sendCmd b s, hrun, rfl⟩

/-- Settles O27: the request passes its checks, and its program is one frame with DC High. -/
theorem sendDataRuns : Obligations.SendDataRuns := by
  unfold Obligations.SendDataRuns
  intro s b hidle hset hawake
  have hacc : request .sendData b s = s.accept .sendData b :=
    request_eq_accept_of_setUp hidle (by decide) rfl hset fun _ => hawake
  obtain ⟨p, hrun⟩ := (Runs.accept hidle .sendData b).run_frame rfl rfl
  exact ⟨_, _, congrArg Host.Outcome.next hacc, accepted_accept .sendData b s, hrun, rfl⟩

/-! ### WaitUntilIdle (43_protocol_primitives.md R205-R207) -/

theorem busyAnswer_of_cons {s : State} {lvl : Level} {rest : List Level} (h : s.busyAnswers = lvl :: rest) :
    s.busyAnswer = lvl := by
  rw [State.busyAnswer, h, List.headD_cons]

theorem takeBusy_of_cons {s : State} {lvl : Level} {rest : List Level} (h : s.busyAnswers = lvl :: rest) :
    s.takeBusy = { s with busyAnswers := rest } := by
  rw [State.takeBusy, h]

/-- A BUSY read that returns High ends the wait. -/
theorem pollBusy_of_high {s : State} {rest : List Level} (h : s.busyAnswers = .high :: rest) :
    pollBusy s = State.nextItem { s with
      status := { s.status with busyWait := false }
      busyAnswers := rest, trace := .pinRead .high :: s.trace } := by
  rw [pollBusy, busyAnswer_of_cons h, takeBusy_of_cons h]
  rfl

/-- A BUSY read that returns Low within the limit goes on to the poll delay. -/
theorem pollBusy_of_low {s : State} {rest : List Level} (h : s.busyAnswers = .low :: rest)
    (hw : s.seq.wll = 0 ∨ s.seq.w ≠ s.seq.wll.toNat) :
    pollBusy s = { s with
      status := { s.status with busyWait := true }, seq := { s.seq with beat := .polled }
      busyAnswers := rest, trace := .pinRead .low :: s.trace } := by
  have hlim : ¬ (s.seq.wll ≠ 0 ∧ s.seq.w = s.seq.wll.toNat) := by tauto
  rw [pollBusy, busyAnswer_of_cons h, takeBusy_of_cons h]
  exact if_neg hlim

/-- A BUSY read that returns Low at the limit ends the operation. -/
theorem pollBusy_of_limit {s : State} {rest : List Level} (h : s.busyAnswers = .low :: rest) (hl : s.seq.wll ≠ 0)
    (hw : s.seq.w = s.seq.wll.toNat) :
    pollBusy s = (State.raise .errTimeout
      { s with busyAnswers := rest, trace := .pinRead .low :: s.trace }).panelMisses := by
  rw [pollBusy, busyAnswer_of_cons h, takeBusy_of_cons h]
  exact if_pos ⟨hl, hw⟩

/-- After `n` polls of a wait, at its next read: `n` delays are counted and `answers` are left. BUSYWAIT and the position
within the line are told apart only from before the first poll to after it. -/
def State.polled (n : Nat) (answers : List Level) (busyWait : Bool) (beat : Beat) (s : State) : State :=
  { s with
    status := { s.status with busyWait }
    polls := pollsNext^[n] s.polls
    seq := { s.seq with beat, w := s.seq.w + n }
    busyAnswers := answers, trace := (Expect.lowPolls n).reverse ++ s.trace }

theorem lowPolls_add (m n : Nat) : Expect.lowPolls (n + m) = Expect.lowPolls m ++ Expect.lowPolls n := by
  rw [Nat.add_comm, Expect.lowPolls, List.replicate_add, List.flatten_append]
  rfl

theorem State.polled_polled (m n : Nat) (s : State) (answers answers' : List Level) (busyWait busyWait' : Bool)
    (beat beat' : Beat) :
    (s.polled m answers busyWait beat).polled n answers' busyWait' beat' =
      s.polled (n + m) answers' busyWait' beat' := by
  simp only [polled, Function.iterate_add_apply, lowPolls_add, List.reverse_append, List.append_assoc, Nat.add_assoc,
    Nat.add_comm m]

/-- One poll: a wait at a read, of the state `u`, reads BUSY Low, delays, and comes to its next read. -/
theorem Runs.run_poll {l : List Item} {s u : State} {rest : List Level} (h : Runs (.wait :: l) u)
    (hs : step s = .next (pollBusy u)) (ha : u.busyAnswers = .low :: rest)
    (hw : u.seq.wll = 0 ∨ u.seq.w ≠ u.seq.wll.toNat) :
    run 2 s = .next (u.polled 1 rest true .again) ∧
    step (u.polled 1 rest true .again) = .next (pollBusy (u.polled 1 rest true .again)) := by
  have hread := pollBusy_of_low ha hw
  have hdelay : Runs (.wait :: l) (pollBusy u) := by rw [hread]; exact h.congr rfl rfl rfl rfl
  have hagain : Runs (.wait :: l) (u.polled 1 rest true .again) := h.congr rfl rfl rfl rfl
  refine ⟨?_, hagain.step_cons⟩
  rw [run_succ hs, run_succ hdelay.step_cons, hread]
  rfl

/-- A wait at a read, of the state `u`, that reads BUSY Low `n` times within the limit makes `n` polls and one read more. -/
theorem Runs.run_polls {l : List Item} {n : Nat} {s u : State} {answers : List Level} (h : Runs (.wait :: l) u)
    (hs : step s = .next (pollBusy u)) (ha : u.busyAnswers = List.replicate n Level.low ++ answers)
    (hw : u.seq.wll = 0 ∨ u.seq.w + n ≤ u.seq.wll.toNat) :
    ∃ busyWait beat, run (2 * n + 1) s = .next (pollBusy (u.polled n answers busyWait beat)) := by
  induction n generalizing s u with
  | zero =>
    rw [List.replicate_zero, List.nil_append] at ha
    subst ha
    exact ⟨u.status.busyWait, u.seq.beat, run_succ hs⟩
  | succ n ih =>
    have hlow : u.busyAnswers = .low :: (List.replicate n Level.low ++ answers) := ha
    obtain ⟨hpoll, hnext⟩ := h.run_poll hs hlow (hw.imp_right (by omega))
    have hw' : u.seq.wll = 0 ∨ u.seq.w + 1 + n ≤ u.seq.wll.toNat := by rwa [Nat.add_right_comm]
    obtain ⟨busyWait, beat, hrun⟩ := ih (u := u.polled 1 _ true .again) (h.congr rfl rfl rfl rfl) hnext rfl hw'
    refine ⟨busyWait, beat, ?_⟩
    rw [State.polled_polled] at hrun
    rw [Nat.mul_succ, Nat.add_right_comm, Nat.add_comm, run_add hpoll, hrun]

/-- Counting from 0, POLLS is the number of polls, until it saturates (10_state.md R47). -/
theorem pollsNext_iterate (n : Nat) : pollsNext^[n] 0 = BitVec.ofNat 32 (min n (2 ^ 32 - 1)) := by
  induction n with
  | zero => rfl
  | succ n ih =>
    rw [Function.iterate_succ_apply', ih]
    by_cases hn : n < 2 ^ 32 - 1
    · have hne : BitVec.ofNat 32 n ≠ 0xFFFFFFFF := by bv_omega
      rw [Nat.min_eq_left hn.le, Nat.min_eq_left hn, pollsNext, if_neg hne]
      exact (BitVec.ofNat_add n 1).symm
    · rw [Nat.min_eq_right (by omega), Nat.min_eq_right (by omega)]
      rfl

/-- A wait that begins, and reads BUSY Low `n` times within the limit. -/
theorem Runs.run_wait_polls {l : List Item} {n : Nat} {s : State} {answers : List Level} (h : Runs (.wait :: l) s)
    (hb : s.seq.beat = .start) (ha : s.busyAnswers = List.replicate n Level.low ++ answers)
    (hw : s.seq.wll = 0 ∨ n ≤ s.seq.wll.toNat) :
    ∃ busyWait beat, run (2 * n + 1) s = .next (pollBusy ((waitBegins s).polled n answers busyWait beat)) := by
  have hs : step s = .next (pollBusy (waitBegins s)) := by
    rw [h.step_cons, itemStep, waitStep, hb]
  exact Runs.run_polls (l := l) (h.congr rfl rfl rfl rfl) hs ha (by simpa using hw)

/-- A wait has read BUSY Low `n` times and then High, and the sequencer has gone on to the next line. -/
def State.waited (n : Nat) (rest : List Level) (s : State) : State :=
  State.nextItem { s with
    status := { s.status with busyWait := false }
    polls := BitVec.ofNat 32 (min n (2 ^ 32 - 1))
    seq := { s.seq with w := n }
    busyAnswers := rest, trace := (Expect.wait n).reverse ++ s.trace }

theorem Runs.waited {i : Item} {l : List Item} {s : State} (h : Runs (i :: l) s) (n : Nat) (rest : List Level) :
    Runs l (s.waited n rest) :=
  Runs.nextItem (i := i) (h.congr rfl rfl rfl rfl)

theorem State.waited_of_start {s : State} (n : Nat) (rest : List Level) (hb : s.seq.beat = .start) :
    s.waited n rest = { s with
      status := { s.status with busyWait := false }
      polls := BitVec.ofNat 32 (min n (2 ^ 32 - 1))
      seq := { s.seq with item := s.seq.item + 1, b := 0, j := 0, k := 0, n := 0, w := n }
      busyAnswers := rest, trace := (Expect.wait n).reverse ++ s.trace } := by
  rw [waited, nextItem, ← hb]

/-- A wait that reads BUSY Low `n` times within the limit, and then High, returns. -/
theorem Runs.run_wait {l : List Item} {n : Nat} {s : State} {rest : List Level} (h : Runs (.wait :: l) s)
    (hb : s.seq.beat = .start) (ha : s.busyAnswers = Expect.lowsThenHigh n ++ rest)
    (hw : s.seq.wll = 0 ∨ n ≤ s.seq.wll.toNat) : run (2 * n + 1) s = .next (s.waited n rest) := by
  rw [Expect.lowsThenHigh, List.append_assoc] at ha
  obtain ⟨busyWait, beat, hrun⟩ := h.run_wait_polls hb ha hw
  rw [hrun, pollBusy_of_high rfl, State.polled, State.waited, Expect.wait, List.reverse_append, ← pollsNext_iterate]
  simp only [waitBegins, Nat.zero_add]
  rfl

/-- Settles O24: the polls, and the read that returns High. -/
theorem waitPollsUntilIdle : Obligations.WaitPollsUntilIdle := by
  unfold Obligations.WaitPollsUntilIdle
  intro s n rest hi ha hl hb hans hw
  exact ⟨_, (Runs.of_line hi ha hl).run_wait hb hans hw, State.waited_of_start n rest hb⟩

/-- Settles O25: as many polls as the limit, and the read that finds it reached. -/
theorem waitTimesOut : Obligations.WaitTimesOut := by
  unfold Obligations.WaitTimesOut
  intro s rest hi ha hl hb hwll hans
  have hlim := s.seq.wll.isLt
  have hpolls : pollsNext^[s.seq.wll.toNat] 0 = s.seq.wll.setWidth 32 := by
    rw [pollsNext_iterate, Nat.min_eq_left (by omega), BitVec.ofNat_toNat]
  rw [List.replicate_succ', List.append_assoc] at hans
  obtain ⟨busyWait, beat, hrun⟩ := (Runs.of_line hi ha hl).run_wait_polls hb hans (.inr le_rfl)
  have hw : ((waitBegins s).polled s.seq.wll.toNat (.low :: rest) busyWait beat).seq.w = s.seq.wll.toNat :=
    Nat.zero_add _
  refine ⟨_, hrun.trans (congrArg Host.Outcome.next (pollBusy_of_limit rfl hwll hw)), ?_⟩
  rw [← hpolls]
  rfl

/-- Settles O28: the request passes its checks, and its program is one wait. -/
theorem waitIdleRuns : Obligations.WaitIdleRuns := by
  unfold Obligations.WaitIdleRuns
  intro s n rest hidle hset hans hw
  have hacc : request .waitIdle 0 s = s.accept .waitIdle 0 :=
    request_eq_accept_of_setUp hidle (by decide) rfl hset (absurd · (by decide))
  have hwait : Runs [.wait] (s.accept .waitIdle 0) := Runs.accept hidle .waitIdle 0
  have hrun : run (2 * n + 1 + 1) (s.accept .waitIdle 0) = _ :=
    (run_add (hwait.run_wait rfl hans hw)).trans (run_succ (hwait.waited n rest).step_nil)
  exact ⟨_, _, congrArg Host.Outcome.next hacc, accepted_accept .waitIdle 0 s, hrun, rfl⟩

/-! ### PanelReset (43_protocol_primitives.md R209) -/

theorem Runs.rstStep {lvl : Level} {l : List Item} {s : State} (h : Runs (.rst lvl :: l) s) :
    Runs l (rstStep lvl s) := by
  cases lvl <;> exact Runs.nextItem (h.congr rfl rfl rfl rfl)

theorem Runs.delayStep {ms : Nat} {l : List Item} {s : State} (h : Runs (.delay ms :: l) s) :
    Runs l (delayStep ms s) :=
  Runs.nextItem (h.congr rfl rfl rfl rfl)

/-- The reset pulse has been driven, line by line. -/
def State.pulsed (s : State) : State :=
  delayStep Config.resetHighMs (rstStep .high (delayStep Config.resetLowMs (rstStep .low s)))

/-- The first four lines of PanelReset are the pulse; its wait is left. -/
theorem Runs.run_pulse {l : List Item} {s : State} (h : Runs (panelReset ++ l) s) :
    run 4 s = .next s.pulsed ∧ Runs (.wait :: l) s.pulsed := by
  have hlow : Runs (.delay Config.resetLowMs :: .rst .high :: .delay Config.resetHighMs :: .wait :: l)
    (Machine.rstStep .low s) := Runs.rstStep h
  have hheld := hlow.delayStep
  have hhigh := hheld.rstStep
  refine ⟨?_, hhigh.delayStep⟩
  rw [run_succ (Runs.step_cons h), run_succ hlow.step_cons, run_succ hheld.step_cons, run_succ hhigh.step_cons]
  rfl

/-- Settles O29: the request passes its checks, and its program is the reset pulse and a wait. -/
theorem resetRuns : Obligations.ResetRuns := by
  unfold Obligations.ResetRuns
  intro s n rest hidle hset hans hw
  have hacc : request .reset 0 s = s.accept .reset 0 :=
    request_eq_accept_of_setUp hidle (by decide) rfl hset (absurd · (by decide))
  obtain ⟨hpulse, hwait⟩ := Runs.run_pulse (l := []) (Runs.accept hidle .reset 0)
  have hrun : run (4 + (2 * n + 1 + 1)) (s.accept .reset 0) = _ :=
    (run_add hpulse).trans ((run_add (hwait.run_wait rfl hans hw)).trans (run_succ (hwait.waited n rest).step_nil))
  rw [show 4 + (2 * n + 1 + 1) = 2 * n + 6 by omega] at hrun
  refine ⟨_, _, congrArg Host.Outcome.next hacc, accepted_accept .reset 0 s, hrun, ?_⟩
  rw [List.reverse_append, List.append_assoc]
  rfl

end Sys2Proof.Machine

/-! Proofs of the family 44_protocol_operations.md. A stretch of an operation that sends bytes leaves a stream of events and
little else behind; CLEAR, the FRAME ops and INIT_ROM send theirs in loops, one turn after another; and each operation is its
request, its stretches and its waits, and its end. -/

namespace Sys2Proof.Machine

/-! ### The orientation check (44_protocol_operations.md R240) -/

/-- A FRAME request under an orientation its variant does not take fails there, whatever FB_BASE (60_exceptions.md R323). -/
theorem requestError_of_wrongVariant {op : Op} {arg : Byte} {s : State} (hf : op.isFrame = true)
    (hset : s.status.tsetupOk = true) (hawake : s.status.pstate ≠ .deepSleep)
    (hvar : op.variantOk s.status.orient = false) : requestError op arg s = some .errVariant := by
  have hop : op ≠ .init := by rintro rfl; contradiction
  simp [requestError, hop, hset, hawake, hvar]

/-- Settles O22: the variant check comes before the range check, and rejects. -/
theorem wrongVariantRejected : Obligations.WrongVariantRejected := by
  unfold Obligations.WrongVariantRejected
  intro s ha hset hawake
  refine ⟨fun hleft hright => ?frameH, fun hup hdown => ?frameV⟩
  case frameH =>
    have hvar : Op.frameH.variantOk s.status.orient = false := by simp [Op.variantOk, hleft, hright]
    exact congrArg Host.Outcome.next (request_eq_reject ha (requestError_of_wrongVariant rfl hset hawake hvar))
  case frameV =>
    have hvar : Op.frameV.variantOk s.status.orient = false := by simp [Op.variantOk, hup, hdown]
    exact congrArg Host.Outcome.next (request_eq_reject ha (requestError_of_wrongVariant rfl hset hawake hvar))

/-! ### Stretches of an operation (43_protocol_primitives.md R200) -/

/-- What the operation latched, and reads until its end, is the same in both (10_state.md R32). -/
structure SameLatches (q r : Sequencer) : Prop where
  opl : q.opl = r.opl
  fbl : q.fbl = r.fbl
  wll : q.wll = r.wll
  psrM : q.psrM = r.psrM
  psrS : q.psrS = r.psrS

theorem SameLatches.trans {q r t : Sequencer} (h : SameLatches q r) (h' : SameLatches r t) : SameLatches q t where
  opl := h.opl.trans h'.opl
  fbl := h.fbl.trans h'.fbl
  wll := h.wll.trans h'.wll
  psrM := h.psrM.trans h'.psrM
  psrS := h.psrS.trans h'.psrS

/-- `events` have been emitted, the last DC level of which is `dc`; they reached the panel, and moved the sequencer. -/
def State.streamed (events : List Event) (dc : Level) (p : Panel) (q : Sequencer) (s : State) : State :=
  { s with seq := q, dc, trace := events.reverse ++ s.trace, panel := p }

theorem State.streamed_streamed (e e' : List Event) (dc dc' : Level) (p p' : Panel) (q q' : Sequencer) (s : State) :
    (s.streamed e dc p q).streamed e' dc' p' q' = s.streamed (e ++ e') dc' p' q' := by
  simp only [streamed, List.reverse_append, List.append_assoc]

/-- In `n` steps the operation emits `events`, leaves DC at `dc` and comes to a state of which `Q` holds. It changes nothing
but the stream, DC, the panel and the sequencer, and keeps what it latched. -/
def Streams (n : Nat) (events : List Event) (dc : Level) (s : State) (Q : State → Prop) : Prop :=
  ∃ p q, SameLatches q s.seq ∧ run n s = .next (s.streamed events dc p q) ∧ Q (s.streamed events dc p q)

theorem Streams.trans {n m : Nat} {e e' : List Event} {dc dc' : Level} {s : State} {Q R : State → Prop}
    (h : Streams n e dc s Q)
    (h' : ∀ p q, SameLatches q s.seq → Q (s.streamed e dc p q) → Streams m e' dc' (s.streamed e dc p q) R) :
    Streams (n + m) (e ++ e') dc' s R := by
  obtain ⟨p, q, hq, hrun, hQ⟩ := h
  obtain ⟨p', q', hq', hrun', hR⟩ := h' p q hq hQ
  rw [State.streamed_streamed] at hrun' hR
  exact ⟨p', q', SameLatches.trans hq' hq, (run_add hrun).trans hrun', hR⟩

/-- A loop over the turns 0 to N - 1, each of `c` steps, of which the last one leaves it. -/
theorem Streams.loop {N c : Nat} {events : Nat → List Event} {dc : Nat → Level} {At : Nat → State → Prop}
    {Q : State → Prop} {s : State} (hN : 0 < N)
    (hnext : ∀ i t, i + 1 < N → At i t → Streams c (events i) (dc i) t (At (i + 1)))
    (hlast : ∀ i t, i + 1 = N → At i t → Streams c (events i) (dc i) t Q) (h : At 0 s) :
    Streams (c * N) ((List.range N).flatMap events) (dc (N - 1)) s Q := by
  have hfrom (m i : Nat) (t : State) (hi : i + (m + 1) = N) (ht : At i t) :
      Streams (c * (m + 1)) ((List.range' i (m + 1)).flatMap events) (dc (N - 1)) t Q := by
    induction m generalizing i t with
    | zero =>
      obtain rfl : i = N - 1 := by omega
      simpa using hlast _ t hi ht
    | succ m ih =>
      rw [List.range'_succ, List.flatMap_cons, Nat.mul_succ, Nat.add_comm]
      exact (hnext i t (by omega) ht).trans fun _ _ _ hu => ih (i + 1) _ (by omega) hu
  obtain ⟨m, rfl⟩ := Nat.exists_eq_add_of_lt hN
  rw [List.range_eq_range']
  simpa using hfrom m 0 s (by omega) h

/-- The operation stands at the first event of the first of these lines, and no loop has begun. -/
structure AtLine (lines : List Item) (s : State) : Prop extends Runs lines s where
  start : s.seq.beat = .start
  counters : s.seq.b = 0 ∧ s.seq.j = 0 ∧ s.seq.k = 0 ∧ s.seq.n = 0

theorem Runs.atLine_nextItem {i : Item} {l : List Item} {s : State} (h : Runs (i :: l) s) : AtLine l s.nextItem :=
  ⟨h.nextItem, rfl, rfl, rfl, rfl, rfl⟩

theorem AtLine.accept {s : State} (h : Idle s) (op : Op) (arg : Byte) :
    AtLine (program (s.accept op arg)) (s.accept op arg) :=
  ⟨Runs.accept h op arg, rfl, rfl, rfl, rfl, rfl⟩

/-! ### Bytes and delays -/

/-- The two events of a byte (43_protocol_primitives.md R201, R202). -/
def frameEvents (lvl : Level) (b : Byte) : List Event := [.pinWrite .dc lvl, .spi b]

/-- The byte has been sent; the sequencer has not gone on yet. -/
def State.framed (lvl : Level) (b : Byte) (p : Panel) (s : State) : State :=
  s.streamed (frameEvents lvl b) lvl p { s.seq with beat := .framed }

/-- What follows a byte moves the sequencer, and changes nothing else and no latch. -/
def OnlyMoves (after : State → State) : Prop :=
  ∀ u, after u = { u with seq := (after u).seq } ∧ SameLatches (after u).seq u.seq

theorem onlyMoves_nextItem : OnlyMoves State.nextItem := fun _ => ⟨rfl, rfl, rfl, rfl, rfl, rfl⟩

theorem onlyMoves_nextFill : OnlyMoves nextFill := by
  intro u
  unfold nextFill
  split <;> exact ⟨rfl, rfl, rfl, rfl, rfl, rfl⟩

theorem onlyMoves_nextPixel : OnlyMoves nextPixel := by
  intro u
  unfold nextPixel
  split
  · exact ⟨rfl, rfl, rfl, rfl, rfl, rfl⟩
  · split <;> exact ⟨rfl, rfl, rfl, rfl, rfl, rfl⟩

theorem onlyMoves_nextRom : OnlyMoves nextRom := by
  intro u
  unfold nextRom
  split <;> exact ⟨rfl, rfl, rfl, rfl, rfl, rfl⟩

/-- A line whose next two events are those of a byte, from the state at its DC write and from the one at the byte itself. -/
theorem Runs.streams_byte {i : Item} {l : List Item} {s : State} {lvl : Level} {b : Byte} {after : State → State}
    {Q : State → Prop} (h : Runs (i :: l) s) (hb : s.seq.beat ≠ .framed) (hmoves : OnlyMoves after)
    (hdc : itemStep i s = sendByte lvl b after s)
    (hbyte : itemStep i ((s.writeDc lvl).setBeat .framed) = sendByte lvl b after ((s.writeDc lvl).setBeat .framed))
    (hafter : ∀ p, Q (after (s.framed lvl b p))) : Streams 2 (frameEvents lvl b) lvl s Q := by
  have h' : Runs (i :: l) ((s.writeDc lvl).setBeat .framed) := h.congr rfl rfl rfl rfl
  obtain ⟨-, hs⟩ | ⟨hf, -⟩ := sendByte_cases lvl b after s
  · obtain ⟨hne, -⟩ | ⟨-, p, hs'⟩ := sendByte_cases lvl b after ((s.writeDc lvl).setBeat .framed)
    · exact absurd rfl hne
    · obtain ⟨hseq, hq⟩ := hmoves (s.framed lvl b p)
      have hstreamed : after (s.framed lvl b p) =
        s.streamed (frameEvents lvl b) lvl p (after (s.framed lvl b p)).seq := hseq
      refine ⟨p, _, ⟨hq.opl, hq.fbl, hq.wll, hq.psrM, hq.psrS⟩, ?_, hstreamed ▸ hafter p⟩
      rw [run_succ (h.step_cons.trans (hdc.trans hs)), run_succ (h'.step_cons.trans (hbyte.trans hs')), ← hstreamed]
      rfl
  · exact absurd hf hb

/-- A byte after which the sequencer goes on to the next line leaves it at that line's first event. -/
theorem Runs.atLine_framed {i : Item} {l : List Item} {s : State} (h : Runs (i :: l) s) (lvl : Level) (b : Byte)
    (p : Panel) : AtLine l (s.framed lvl b p).nextItem :=
  Runs.atLine_nextItem (i := i) (h.congr rfl rfl rfl rfl)

theorem AtLine.streams_cmd {b : Byte} {l : List Item} {s : State} (h : AtLine (.cmd b :: l) s) :
    Streams 2 (Expect.c b) .low s (AtLine l) :=
  h.streams_byte (by simp [h.start]) onlyMoves_nextItem rfl rfl (h.atLine_framed _ _)

theorem AtLine.streams_data {b : Byte} {l : List Item} {s : State} (h : AtLine (.data b :: l) s) :
    Streams 2 (Expect.d b) .high s (AtLine l) :=
  h.streams_byte (by simp [h.start]) onlyMoves_nextItem rfl rfl (h.atLine_framed _ _)

theorem AtLine.streams_delay {ms : Nat} {l : List Item} {s : State} (h : AtLine (.delay ms :: l) s) :
    Streams 1 [.delay ms] s.dc s (AtLine l) :=
  ⟨s.panel, s.nextItem.seq, ⟨rfl, rfl, rfl, rfl, rfl⟩, run_succ h.step_cons,
    Runs.atLine_nextItem (s := s.emit (.delay ms)) (h.congr rfl rfl rfl rfl)⟩

/-- A command with one data byte. -/
theorem AtLine.streams_cmd_data {b x : Byte} {l : List Item} {s : State} (h : AtLine (.cmd b :: .data x :: l) s) :
    Streams 4 (Expect.c b ++ Expect.d x) .high s (AtLine l) :=
  h.streams_cmd.trans fun _ _ _ hu => hu.streams_data

/-- Select(s), and a command to the controllers selected (45_panel_command_set.md R298). -/
theorem AtLine.streams_select_cmd {payload b : Byte} {l : List Item} {s : State}
    (h : AtLine (select payload ++ .cmd b :: l) s) :
    Streams 6 (Expect.select payload ++ Expect.c b) .low s (AtLine l) :=
  h.streams_cmd_data.trans fun _ _ _ hu => hu.streams_cmd

/-! ### The end of an operation (44_protocol_operations.md R230) -/

theorem endOperation_eq (s : State) :
    endOperation s = { s with
      status := s.status.ended .ok (endPState s.seq.opl s.status.pstate), seq := { s.seq with v := 0 } } := by
  unfold endOperation endPState
  cases s.seq.opl <;> rfl

/-- Where a stretch leaves no line, the step after it ends the operation. -/
theorem Streams.ends {n : Nat} {e : List Event} {dc : Level} {s : State} (h : Streams n e dc s (AtLine [])) :
    ∃ p q, run (n + 1) s = .next { s with
      status := s.status.ended .ok (endPState s.seq.opl s.status.pstate), seq := q, dc, panel := p
      trace := e.reverse ++ s.trace } := by
  obtain ⟨p, q, hq, hrun, hend⟩ := h
  refine ⟨p, { q with v := 0 }, ?_⟩
  rw [run_add hrun, run_succ hend.step_nil, run_zero, endOperation_eq, ← hq.opl]
  rfl

/-- An operation that is accepted and is one stretch up to its end. -/
theorem Streams.operation {op : Op} {n : Nat} {e : List Event} {dc : Level} {s : State}
    (hacc : request op 0 s = s.accept op 0) (h : Streams n e dc (s.accept op 0) (AtLine [])) :
    ∃ t u, Host.Outcome.next (request op 0 s) = (.next t : StepResult) ∧ Accepted op 0 s t ∧
      run (n + 1) t = .next u ∧
      u = { s with
        status := s.status.ended .ok (endPState op s.status.pstate), seq := u.seq, raced := [], dc, panel := u.panel
        trace := e.reverse ++ s.trace } := by
  obtain ⟨p, q, hrun⟩ := h.ends
  exact ⟨_, _, congrArg Host.Outcome.next hacc, accepted_accept op 0 s, hrun, rfl⟩

/-! ### CLEAR (44_protocol_operations.md R237) -/

/-- The fill loop stands before its byte `n`. -/
structure AtFill (l : List Item) (n : Nat) (s : State) : Prop extends Runs (.fill :: l) s where
  start : s.seq.beat = .start
  count : s.seq.n = n

theorem AtFill.streams_next {l : List Item} {n : Nat} {s : State} (h : AtFill l n s) (hn : n + 1 < Config.halfBytes) :
    Streams 2 (Expect.d Config.fillByte) .high s (AtFill l (n + 1)) := by
  have hlt : s.seq.n + 1 < Config.halfBytes := h.count ▸ hn
  refine h.streams_byte (by simp [h.start]) onlyMoves_nextFill rfl rfl fun p => ?_
  rw [nextFill, if_pos (by exact hlt)]
  exact ⟨h.congr rfl rfl rfl rfl, rfl, congrArg (· + 1) h.count⟩

theorem AtFill.streams_last {l : List Item} {n : Nat} {s : State} (h : AtFill l n s) (hn : n + 1 = Config.halfBytes) :
    Streams 2 (Expect.d Config.fillByte) .high s (AtLine l) := by
  have hge : ¬ s.seq.n + 1 < Config.halfBytes := by rw [h.count, hn]; exact lt_irrefl _
  refine h.streams_byte (by simp [h.start]) onlyMoves_nextFill rfl rfl fun p => ?_
  rw [nextFill, if_neg (by exact hge)]
  exact h.atLine_framed _ _ p

theorem AtLine.streams_fill {l : List Item} {s : State} (h : AtLine (.fill :: l) s) :
    Streams 54400 (List.replicate 27200 (Expect.d 0x55)).flatten .high s (AtLine l) := by
  obtain ⟨-, -, -, hn⟩ := h.counters
  have hloop := Streams.loop (N := Config.halfBytes) (dc := fun _ => .high) (by decide)
    (fun _ _ hi hu => AtFill.streams_next hu hi) (fun _ _ hi hu => AtFill.streams_last hu hi) ⟨h.toRuns, h.start, hn⟩
  rwa [List.flatMap_def, List.map_const', List.length_range] at hloop

/-- One half of CLEAR: a controller selected, opened with DTM and filled. -/
theorem AtLine.streams_cleared {payload : Byte} {l : List Item} {s : State}
    (h : AtLine (select payload ++ .cmd 0x10 :: .fill :: l) s) :
    Streams 54406
      (Expect.select payload ++ Expect.c 0x10 ++ (List.replicate 27200 (Expect.d 0x55)).flatten) .high s (AtLine l) :=
  h.streams_select_cmd.trans (m := 54400) fun _ _ _ hu => hu.streams_fill

/-- Settles O32: the request passes its checks, and its program clears the master and then the slave. -/
theorem clearRuns : Obligations.ClearRuns := by
  unfold Obligations.ClearRuns
  intro s hidle hset hawake
  have hacc : request .clear 0 s = s.accept .clear 0 :=
    request_eq_accept_of_setUp hidle (by decide) rfl hset fun _ => hawake
  have hmaster := (AtLine.accept hidle .clear 0).streams_cleared
  have hclear := hmaster.trans fun _ _ _ hu => hu.streams_cleared
  rw [← List.append_assoc, ← List.append_assoc] at hclear
  exact hclear.operation hacc

/-! ### FRAME_H and FRAME_V (44_protocol_operations.md R238, R239) -/

/-- The byte of a buffer address has been read: it is what host memory holds (20_memory.md R84). -/
def State.fetched (a : Nat) (half : Half) (s : State) : State :=
  s.streamed [.fbRead a] s.dc s.panel { s.seq with v := Memory.read s.memory a, h := half, beat := .fetched }

theorem fetchByte_of_not_raced {a : Nat} {half : Half} {s : State} (ha : a < addressSpace) (hr : a ∉ s.raced) :
    fetchByte a half s = .next (s.fetched a half) := by
  rw [fetchByte, if_pos ha, frameBufferByte_of_not_raced hr, if_neg hr]
  rfl

/-- Where byte (b, j) of a half lies in the buffer of an operation that runs from `s`. -/
def pixelAddress (split : Split) (half : Half) (s : State) (b j : Nat) : Nat :=
  s.seq.fbl.toNat + sourceOffset split s.params half b j

/-- The events of byte (b, j): its read, and its data frame (44_protocol_operations.md R238). -/
def pixelEvents (split : Split) (half : Half) (s : State) (b j : Nat) : List Event :=
  .fbRead (pixelAddress split half s b j) ::
    Expect.d (encByte (Memory.read s.memory (pixelAddress split half s b j)))

/-- The loops over a half stand before byte (b, j). Its buffer, host memory and the parameters are those of the state `o`, at
the beginning of the half, and no host store has raced a byte. -/
structure AtPixel (split : Split) (half : Half) (l : List Item) (o : State) (b j : Nat) (s : State) : Prop
    extends Runs (.pixels split half :: l) s where
  start : s.seq.beat = .start
  block : s.seq.b = b
  byte : s.seq.j = j
  fbl : s.seq.fbl = o.seq.fbl
  unraced : s.raced = []
  memory : s.memory = o.memory
  params : s.params = o.params

section Pixels

variable {split : Split} {half : Half} {l : List Item} {o s : State} {b j : Nat} {Q : State → Prop}

/-- One turn of the loops: a read and a byte. What holds after it, nextPixel decides, whatever byte was sent. -/
theorem AtPixel.streams_turn (h : AtPixel split half l o b j s) (ha : pixelAddress split half o b j < addressSpace)
    (hafter : ∀ a x p, Q (nextPixel ((s.fetched a half).framed .high x p))) :
    Streams 3 (pixelEvents split half o b j) .high s Q := by
  have haddr : pixelAddress split half o b j = s.seq.fbl.toNat + sourceOffset split s.params half s.seq.b s.seq.j := by
    rw [pixelAddress, h.fbl, h.params, h.block, h.byte]
  have hfetch : step s = .next (s.fetched (pixelAddress split half o b j) half) := by
    rw [h.step_cons, itemStep, pixelStep_of_start h.start, ← haddr]
    exact fetchByte_of_not_raced ha (by simp [h.unraced])
  have hbyte : Streams 2 (Expect.d (encByte (Memory.read s.memory (pixelAddress split half o b j)))) .high
      (s.fetched (pixelAddress split half o b j) half) Q :=
    Runs.streams_byte (i := .pixels split half) (h.congr rfl rfl rfl rfl) (show Beat.fetched ≠ .framed by decide)
      onlyMoves_nextPixel rfl rfl (hafter _ _)
  rw [h.memory] at hbyte
  have hread : Streams 1 [.fbRead (pixelAddress split half o b j)] s.dc s
      (· = s.fetched (pixelAddress split half o b j) half) :=
    ⟨s.panel, (s.fetched _ half).seq, ⟨rfl, rfl, rfl, rfl, rfl⟩, run_succ hfetch, rfl⟩
  exact hread.trans fun p q _ hu => hu ▸ hbyte

theorem AtPixel.streams_next (h : AtPixel split half l o b j s) (ha : pixelAddress split half o b j < addressSpace)
    (hj : j + 1 < Config.lineBytes) :
    Streams 3 (pixelEvents split half o b j) .high s (AtPixel split half l o b (j + 1)) := by
  have hlt : s.seq.j + 1 < Config.lineBytes := h.byte ▸ hj
  refine h.streams_turn ha fun a x p => ?_
  rw [nextPixel, if_pos (by exact hlt)]
  exact ⟨h.congr rfl rfl rfl rfl, rfl, h.block, congrArg (· + 1) h.byte, h.fbl, h.unraced, h.memory, h.params⟩

theorem AtPixel.streams_nextBlock (h : AtPixel split half l o b j s)
    (ha : pixelAddress split half o b j < addressSpace) (hj : j + 1 = Config.lineBytes)
    (hb : b + 1 < Config.columnBytes) :
    Streams 3 (pixelEvents split half o b j) .high s (AtPixel split half l o (b + 1) 0) := by
  have hge : ¬ s.seq.j + 1 < Config.lineBytes := by rw [h.byte, hj]; exact lt_irrefl _
  have hlt : s.seq.b + 1 < Config.columnBytes := h.block ▸ hb
  refine h.streams_turn ha fun a x p => ?_
  rw [nextPixel, if_neg (by exact hge), if_pos (by exact hlt)]
  exact ⟨h.congr rfl rfl rfl rfl, rfl, congrArg (· + 1) h.block, rfl, h.fbl, h.unraced, h.memory, h.params⟩

theorem AtPixel.streams_last (h : AtPixel split half l o b j s) (ha : pixelAddress split half o b j < addressSpace)
    (hj : j + 1 = Config.lineBytes) (hb : b + 1 = Config.columnBytes) :
    Streams 3 (pixelEvents split half o b j) .high s (AtLine l) := by
  have hge : ¬ s.seq.j + 1 < Config.lineBytes := by rw [h.byte, hj]; exact lt_irrefl _
  have hge' : ¬ s.seq.b + 1 < Config.columnBytes := by rw [h.block, hb]; exact lt_irrefl _
  refine h.streams_turn ha fun a x p => ?_
  rw [nextPixel, if_neg (by exact hge), if_neg (by exact hge')]
  exact Runs.atLine_framed (s := s.fetched a half) (h.congr rfl rfl rfl rfl) .high x p

/-- The events of block b. -/
def blockEvents (split : Split) (half : Half) (s : State) (b : Nat) : List Event :=
  (List.range Config.lineBytes).flatMap (pixelEvents split half s b)

/-- A block, after which the loops go on as `hlast` says. -/
theorem AtPixel.streams_block (h : AtPixel split half l o b 0 s)
    (ha : ∀ j < Config.lineBytes, pixelAddress split half o b j < addressSpace)
    (hlast : ∀ j t, j + 1 = Config.lineBytes → AtPixel split half l o b j t →
      Streams 3 (pixelEvents split half o b j) .high t Q) :
    Streams 300 (blockEvents split half o b) .high s Q :=
  Streams.loop (c := 3) (N := Config.lineBytes) (dc := fun _ => .high) (by decide)
    (fun j _ hj hu => AtPixel.streams_next hu (ha j (by omega)) hj) hlast h

/-- Under the decided geometry, a buffer that ends below 2^32 has every byte of both halves below 2^32. -/
theorem pixelAddress_lt_of_fits (hg : s.params.specGeometry) (hfit : s.seq.fbl.toNat + 53855 < 2 ^ 32)
    (hb : b < Config.columnBytes) (hj : j < Config.lineBytes) : pixelAddress split half s b j < addressSpace := by
  have hoff := sourceOffset_lt_fbLen hg split half hb hj
  rw [fbLen_of_specGeometry hg] at hoff
  rw [pixelAddress, addressSpace]
  omega

/-- A half, streamed from where the partitioner finds its bytes. -/
theorem AtLine.streams_half {fbl : Word} (h : AtLine (.pixels split half :: l) s) (hf : s.seq.fbl = fbl)
    (hr : s.raced = []) (hg : s.params.specGeometry) (hfit : fbl.toNat + 53855 < 2 ^ 32) :
    Streams 81600 (Expect.half (sourceOffset split s.params half) fbl.toNat s.memory) .high s (AtLine l) := by
  subst hf
  have ha (b : Nat) (hb : b < Config.columnBytes) (j : Nat) (hj : j < Config.lineBytes) :
    pixelAddress split half s b j < addressSpace := pixelAddress_lt_of_fits hg hfit hb hj
  obtain ⟨hb, hj, -, -⟩ := h.counters
  exact Streams.loop (c := 300) (N := Config.columnBytes) (dc := fun _ => .high)
    (At := fun b => AtPixel split half l s b 0) (events := blockEvents split half s) (by decide)
    (fun b _ hb hu => hu.streams_block (ha b (by omega)) fun j _ hj hv =>
      hv.streams_nextBlock (ha b (by omega) j (by omega)) hj hb)
    (fun b _ hb hu => hu.streams_block (ha b (by omega)) fun j _ hj hv =>
      hv.streams_last (ha b (by omega) j (by omega)) hj hb)
    ⟨h.toRuns, h.start, hb, hj, rfl, hr, rfl, rfl⟩

/-- A controller selected, opened with DTM and streamed. -/
theorem AtLine.streams_selected_half {payload : Byte} {fbl : Word}
    (h : AtLine (select payload ++ .cmd 0x10 :: .pixels split half :: l) s) (hf : s.seq.fbl = fbl)
    (hr : s.raced = []) (hg : s.params.specGeometry) (hfit : fbl.toNat + 53855 < 2 ^ 32) :
    Streams 81606 (Expect.select payload ++ Expect.c 0x10 ++
      Expect.half (sourceOffset split s.params half) fbl.toNat s.memory) .high s (AtLine l) :=
  h.streams_select_cmd.trans (m := 81600) fun _ _ hq hu => hu.streams_half (hq.fbl.trans hf) hr hg hfit

/-- The program of a FRAME op streams half A and then half B (42_frame_partitioner.md R175). -/
theorem AtLine.streams_frame {fbl : Word} {orient : Orientation}
    (h : AtLine (frameProgram split s.params (some orient)) s) (hf : s.seq.fbl = fbl) (hr : s.raced = [])
    (hg : s.params.specGeometry) (hfit : fbl.toNat + 53855 < 2 ^ 32) :
    Streams 163212 (Expect.frame (selector s.params orient .a) (selector s.params orient .b)
      (sourceOffset split s.params .a) (sourceOffset split s.params .b) fbl.toNat s.memory) .high s (AtLine []) := by
  have hA := AtLine.streams_selected_half h hf hr hg hfit
  have hAB := hA.trans (m := 81606)
    (e' := Expect.select (selector s.params orient .b) ++ Expect.c 0x10 ++
      Expect.half (sourceOffset split s.params .b) fbl.toNat s.memory)
    fun _ _ hq hu => hu.streams_selected_half (hq.fbl.trans hf) hr hg hfit
  rw [← List.append_assoc, ← List.append_assoc] at hAB
  exact hAB

end Pixels

/-- The column split as functions of the block and the byte (42_frame_partitioner.md R176, R177). -/
theorem sourceOffset_column {p : Params} (hg : p.specGeometry) :
    (sourceOffset .column p .a = fun b j => b * 198 + j) ∧
    (sourceOffset .column p .b = fun b j => b * 198 + 98 + j) := by
  refine ⟨funext₂ fun b j => ?_, funext₂ fun b j => ?_⟩ <;> obtain ⟨hA, hB, -, -⟩ := sourceOffsets p b j hg
  · exact hA
  · exact hB

/-- The row split likewise (42_frame_partitioner.md R178, R179). -/
theorem sourceOffset_row {p : Params} (hg : p.specGeometry) :
    (sourceOffset .row p .a = fun b j => j * 272 + b) ∧
    (sourceOffset .row p .b = fun b j => (98 + j) * 272 + b) := by
  refine ⟨funext₂ fun b j => ?_, funext₂ fun b j => ?_⟩ <;> obtain ⟨-, -, hA, hB⟩ := sourceOffsets p b j hg
  · exact hA
  · exact hB

/-- A FRAME op under an orientation its variant takes, from a buffer that ends below 2^32, runs to its end. -/
theorem frame_runs {op : Op} {split : Split} {orient : Orientation} {s : State} (hidle : Idle s)
    (hset : s.status.tsetupOk = true) (hawake : s.status.pstate ≠ .deepSleep) (hg : s.params.specGeometry)
    (hfit : s.fbBase.toNat + 53855 < 2 ^ 32) (hf : op.isFrame = true)
    (hvar : op.variantOk s.status.orient = true)
    (hprogram : program (s.accept op 0) = frameProgram split s.params (some orient)) :
    ∃ t u, Host.Outcome.next (request op 0 s) = (.next t : StepResult) ∧ Accepted op 0 s t ∧
      run 163213 t = .next u ∧
      u = { s with
        status := s.status.ended .ok (endPState op s.status.pstate), seq := u.seq, raced := [], dc := .high
        panel := u.panel
        trace := (Expect.frame (selector s.params orient .a) (selector s.params orient .b)
          (sourceOffset split s.params .a) (sourceOffset split s.params .b) s.fbBase.toNat s.memory).reverse ++
          s.trace } := by
  have hacc : request op 0 s = s.accept op 0 := by
    refine request_eq_accept hidle.1 ((requestError_frame hf hset hawake hvar).trans (if_neg ?_))
    rw [fbLen_of_specGeometry hg, addressSpace]
    omega
  have hline := AtLine.accept hidle op 0
  rw [hprogram] at hline
  exact (hline.streams_frame (s := s.accept op 0) (if_pos hf) rfl hg hfit).operation hacc

/-- Settles O33: half A goes to the slave under Left and to the master under Right, each half from the column split. -/
theorem frameHRuns : Obligations.FrameHRuns := by
  unfold Obligations.FrameHRuns
  intro s o hidle hset hawake ho hlr hg hfit
  have hvar : Op.frameH.variantOk s.status.orient = true := by simpa [Op.variantOk, ho] using hlr
  have hprogram : program (s.accept .frameH 0) = frameProgram .column s.params (some o) := ho ▸ rfl
  have hselA : selector s.params o .a = if o = .left then 0x06 else 0x05 := by
    obtain rfl | rfl := hlr <;> rfl
  have hselB : selector s.params o .b = if o = .left then 0x05 else 0x06 := by
    obtain rfl | rfl := hlr <;> rfl
  obtain ⟨hoffA, hoffB⟩ := sourceOffset_column hg
  rw [← hselA, ← hselB, ← hoffA, ← hoffB]
  exact frame_runs hidle hset hawake hg hfit rfl hvar hprogram

/-- Settles O34: half A goes to VSEL_UP_A under Up and to the other controller under Down, each half from the row split. -/
theorem frameVRuns : Obligations.FrameVRuns := by
  unfold Obligations.FrameVRuns
  intro s o hidle hset hawake ho hud hg hfit
  have hvar : Op.frameV.variantOk s.status.orient = true := by simpa [Op.variantOk, ho] using hud
  have hprogram : program (s.accept .frameV 0) = frameProgram .row s.params (some o) := ho ▸ rfl
  obtain ⟨-, -, -, -, hslave, hmaster⟩ := halfSelectors s.params
  have hsel : selector s.params o .a = (if o = .up ↔ s.params.vselUpA = .slave then 0x06 else 0x05) ∧
      selector s.params o .b = (if o = .up ↔ s.params.vselUpA = .slave then 0x05 else 0x06) := by
    cases hv : s.params.vselUpA with
    | slave =>
      obtain ⟨hupA, hupB, hdownA, hdownB⟩ := hslave hv
      obtain rfl | rfl := hud
      · exact ⟨hupA, hupB⟩
      · exact ⟨hdownA, hdownB⟩
    | master =>
      obtain ⟨hupA, hupB, hdownA, hdownB⟩ := hmaster hv
      obtain rfl | rfl := hud
      · exact ⟨hupA, hupB⟩
      · exact ⟨hdownA, hdownB⟩
  obtain ⟨hselA, hselB⟩ := hsel
  obtain ⟨hoffA, hoffB⟩ := sourceOffset_row hg
  rw [← hselA, ← hselB, ← hoffA, ← hoffB]
  exact frame_runs hidle hset hawake hg hfit rfl hvar hprogram

/-! ### DISPLAY_SLEEP (44_protocol_operations.md R241, R242) -/

/-- A stretch up to a wait that reads BUSY Low `n` times within the limit, and then High. -/
theorem Streams.run_wait {k n : Nat} {e : List Event} {dc : Level} {l : List Item} {s : State} {rest : List Level}
    {limit : BitVec 16} (h : Streams k e dc s (AtLine (.wait :: l)))
    (ha : s.busyAnswers = Expect.lowsThenHigh n ++ rest) (hl : s.seq.wll = limit) (hw : limit = 0 ∨ n ≤ limit.toNat) :
    ∃ p q, SameLatches q s.seq ∧ run (k + (2 * n + 1)) s = .next ((s.streamed e dc p q).waited n rest) ∧
      AtLine l ((s.streamed e dc p q).waited n rest) := by
  obtain ⟨p, q, hq, hrun, hwait⟩ := h
  rw [← hl, ← hq.wll] at hw
  exact ⟨p, q, hq, (run_add hrun).trans (hwait.run_wait hwait.start ha hw),
    hwait.waited n rest, rfl, rfl, rfl, rfl, rfl⟩

theorem request_displaySleep_eq_accept {s : State} (hidle : Idle s) (hset : s.status.tsetupOk = true)
    (hawake : s.status.pstate ≠ .deepSleep) : request .displaySleep 0 s = s.accept .displaySleep 0 :=
  request_eq_accept_of_setUp hidle (by decide) rfl hset fun _ => hawake

/-- Settles O35: three stretches, each up to a wait that returns, and one up to the end. -/
theorem displaySleepRuns : Obligations.DisplaySleepRuns := by
  unfold Obligations.DisplaySleepRuns
  intro s n1 n2 n3 rest hidle hset hawake hans hw
  rw [List.append_assoc, List.append_assoc] at hans
  have hw1 := hw.imp_right fun ⟨h, _, _⟩ => h
  have hw2 := hw.imp_right fun ⟨_, h, _⟩ => h
  have hw3 := hw.imp_right fun ⟨_, _, h⟩ => h
  have hstart : AtLine displaySleepProgram (s.accept .displaySleep 0) := AtLine.accept hidle .displaySleep 0
  obtain ⟨p1, q1, hq1, hrun1, hdrf⟩ := (AtLine.streams_select_cmd hstart).run_wait hans rfl hw1
  obtain ⟨p2, q2, hq2, hrun2, hpof⟩ := hdrf.streams_cmd_data.run_wait rfl hq1.wll hw2
  obtain ⟨p3, q3, hq3, hrun3, hdslp⟩ := hpof.streams_cmd_data.run_wait rfl (hq2.wll.trans hq1.wll) hw3
  obtain ⟨p4, q4, hrun4⟩ := (hdslp.streams_cmd_data.trans fun _ _ _ hu => hu.streams_delay).ends
  have hop : q3.opl = .displaySleep := hq3.opl.trans (hq2.opl.trans hq1.opl)
  have hrun := (run_add hrun1).trans ((run_add hrun2).trans ((run_add hrun3).trans hrun4))
  rw [show 6 + (2 * n1 + 1) + (4 + (2 * n2 + 1) + (4 + (2 * n3 + 1) + (4 + 1 + 1))) = 22 + 2 * (n1 + n2 + n3) + 1 by
    omega] at hrun
  have hacc := request_displaySleep_eq_accept hidle hset hawake
  refine ⟨_, _, congrArg Host.Outcome.next hacc, accepted_accept .displaySleep 0 s, hrun, ?_⟩
  simp only [Expect.displaySleep, State.waited, State.streamed, State.nextItem, hop, List.reverse_append,
    List.append_assoc]
  rfl

/-- Settles O36: the first stretch comes to the wait after PON, which times out as O25 says. -/
theorem displaySleepTimesOut : Obligations.DisplaySleepTimesOut := by
  unfold Obligations.DisplaySleepTimesOut
  intro s rest hidle hset hawake hlimit hans
  have hstart : AtLine displaySleepProgram (s.accept .displaySleep 0) := AtLine.accept hidle .displaySleep 0
  obtain ⟨p, q, hq, hpon, hwait⟩ := AtLine.streams_select_cmd hstart
  have hwll : q.wll = s.waitLimit := hq.wll
  rw [← hwll] at hlimit hans
  obtain ⟨u, hrun, hu⟩ := waitTimesOut _ rest hwait.quiet hwait.active hwait.line_eq hwait.start hlimit hans
  have hall : run (6 + (2 * q.wll.toNat + 1)) (s.accept .displaySleep 0) = .next u := (run_add hpon).trans hrun
  rw [hwll, ← Nat.add_assoc] at hall
  have hacc := request_displaySleep_eq_accept hidle hset hawake
  refine ⟨_, u, congrArg Host.Outcome.next hacc, accepted_accept .displaySleep 0 s, hall, hu.trans ?_⟩
  simp only [State.streamed, hwll, List.reverse_append, List.append_assoc, List.cons_append]
  rfl

/-! ### INIT (44_protocol_operations.md R231-R235) -/

theorem setupAnswer_of_cons {s : State} {ok : Bool} {answers : List Bool} (h : s.setupAnswers = ok :: answers) :
    s.setupAnswer = ok := by
  rw [State.setupAnswer, h, List.headD_cons]

theorem takeSetup_of_cons {s : State} {ok : Bool} {answers : List Bool} (h : s.setupAnswers = ok :: answers) :
    s.takeSetup = { s with setupAnswers := answers } := by
  rw [State.takeSetup, h]

/-- `Setup` has answered ok. -/
def State.setUp (o : Orientation) (answers : List Bool) (s : State) : State :=
  (setupDone o { s with setupAnswers := answers, trace := .setup true :: s.trace }).nextItem

theorem setupStep_of_ok {s : State} {answers : List Bool} {o : Orientation} (h : s.setupAnswers = true :: answers)
    (ho : orientationOf s.seq.argl = some o) : setupStep s = .next (s.setUp o answers) := by
  rw [setupStep, setupAnswer_of_cons h, takeSetup_of_cons h, ho]
  rfl

theorem setupStep_of_fail {s : State} {answers : List Bool} (h : s.setupAnswers = false :: answers) :
    setupStep s = .next (setupFailed { s with setupAnswers := answers, trace := .setup false :: s.trace }) := by
  rw [setupStep, setupAnswer_of_cons h, takeSetup_of_cons h]
  rfl

/-- INIT with a valid orientation is accepted in every idle state (60_exceptions.md R323). -/
theorem request_init_eq_accept {s : State} {arg : Byte} (hidle : Idle s) (ho : orientationOf arg ≠ none) :
    request .init arg s = s.accept .init arg :=
  request_eq_accept hidle.1 (by simp [requestError, ho, Op.busWrite, Op.variantOk, Op.isFrame])

/-- Settles O31: INIT's first event is its only one. -/
theorem initSetupFailure : Obligations.InitSetupFailure := by
  unfold Obligations.InitSetupFailure
  intro s arg answers hidle ho hans
  have hsetup : Runs (.setup :: panelReset ++ [.rom]) (s.accept .init arg) := Runs.accept hidle .init arg
  have hfail := hsetup.step_cons.trans (setupStep_of_fail hans)
  have hacc := request_init_eq_accept hidle ho
  exact ⟨_, _, congrArg Host.Outcome.next hacc, accepted_accept .init arg s, run_succ hfail, rfl⟩

/-- The DC level of an INIT_ROM entry. -/
def romLevel : RomEntry → Level
  | .cmd _ => .low
  | .data _ | .psrM _ | .psrS _ => .high

/-- The byte of an INIT_ROM entry under a PSR pair (44_protocol_operations.md R233). -/
def romByte (pair : PsrPair) : RomEntry → Byte
  | .cmd b | .data b => b
  | .psrM i => pair.master.getD i 0
  | .psrS i => pair.slave.getD i 0

theorem romEntry_eq_frameEvents (pair : PsrPair) (e : RomEntry) :
    Expect.romEntry pair e = frameEvents (romLevel e) (romByte pair e) := by
  cases e <;> rfl

theorem romFrame_of_inRange {e : RomEntry} {n : Nat} {pair : PsrPair} {s : State} (he : e.InRange n)
    (hlen : pair.hasLength n) (hM : s.seq.psrM = pair.master) (hS : s.seq.psrS = pair.slave) :
    romFrame e s = some (romLevel e, romByte pair e) := by
  obtain ⟨hlenM, hlenS⟩ := hlen
  cases e with
  | cmd b | data b => rfl
  | psrM i =>
    have hi : i < pair.master.length := hlenM ▸ he
    simp [romFrame, romLevel, romByte, hM, hi]
  | psrS i =>
    have hi : i < pair.slave.length := hlenS ▸ he
    simp [romFrame, romLevel, romByte, hS, hi]

/-- The loop at an entry of INIT_ROM sends the entry's byte. -/
theorem romStep_of_entry {k n : Nat} {e : RomEntry} {pair : PsrPair} {s : State} (hk : s.seq.k = k)
    (he : s.params.initRom[k]? = some e) (hin : e.InRange n) (hlen : pair.hasLength n) (hM : s.seq.psrM = pair.master)
    (hS : s.seq.psrS = pair.slave) : itemStep .rom s = sendByte (romLevel e) (romByte pair e) nextRom s := by
  subst hk
  simp only [itemStep, romStep, he, romFrame_of_inRange hin hlen hM hS]

/-- The INIT_ROM loop stands before entry `k`, with the lists of `pair` latched. -/
structure AtRom (pair : PsrPair) (rom : List RomEntry) (l : List Item) (k : Nat) (s : State) : Prop
    extends Runs (.rom :: l) s where
  start : s.seq.beat = .start
  count : s.seq.k = k
  entries : s.params.initRom = rom
  psrM : s.seq.psrM = pair.master
  psrS : s.seq.psrS = pair.slave

section Rom

variable {pair : PsrPair} {rom : List RomEntry} {l : List Item} {k n : Nat} {s : State} {Q : State → Prop}

/-- One turn of the loop: the frame of its entry. -/
theorem AtRom.streams_turn (h : AtRom pair rom l k s) (hk : k < rom.length) (hin : ∀ e ∈ rom, e.InRange n)
    (hlen : pair.hasLength n) (hafter : ∀ lvl b p, Q (nextRom (s.framed lvl b p))) :
    Streams 2 (Expect.romEntry pair (rom.getD k default)) (romLevel (rom.getD k default)) s Q := by
  have hget : rom[k]? = some (rom.getD k default) := by simp [hk]
  have he : s.params.initRom[k]? = some (rom.getD k default) := by rw [h.entries, hget]
  have hrange : (rom.getD k default).InRange n := hin _ (List.mem_of_getElem? hget)
  rw [romEntry_eq_frameEvents]
  exact h.streams_byte (by simp [h.start]) onlyMoves_nextRom
    (romStep_of_entry h.count he hrange hlen h.psrM h.psrS)
    (romStep_of_entry (s := (s.writeDc _).setBeat .framed) h.count he hrange hlen h.psrM h.psrS) (hafter _ _)

theorem AtRom.streams_next (h : AtRom pair rom l k s) (hin : ∀ e ∈ rom, e.InRange n) (hlen : pair.hasLength n)
    (hk : k + 1 < rom.length) :
    Streams 2 (Expect.romEntry pair (rom.getD k default)) (romLevel (rom.getD k default)) s
      (AtRom pair rom l (k + 1)) := by
  have hlt : s.seq.k + 1 < s.params.initRom.length := by rwa [h.count, h.entries]
  refine h.streams_turn (by omega) hin hlen fun lvl b p => ?_
  rw [nextRom, if_pos (by exact hlt)]
  exact ⟨h.congr rfl rfl rfl rfl, rfl, congrArg (· + 1) h.count, h.entries, h.psrM, h.psrS⟩

theorem AtRom.streams_last (h : AtRom pair rom l k s) (hin : ∀ e ∈ rom, e.InRange n) (hlen : pair.hasLength n)
    (hk : k + 1 = rom.length) :
    Streams 2 (Expect.romEntry pair (rom.getD k default)) (romLevel (rom.getD k default)) s (AtLine l) := by
  have hge : ¬ s.seq.k + 1 < s.params.initRom.length := by rw [h.count, h.entries, hk]; exact lt_irrefl _
  refine h.streams_turn (by omega) hin hlen fun lvl b p => ?_
  rw [nextRom, if_neg (by exact hge)]
  exact h.atLine_framed lvl b p

theorem flatMap_range_getD {α β : Type} (xs : List α) (d : α) (f : α → List β) :
    (List.range xs.length).flatMap (fun i => f (xs.getD i d)) = xs.flatMap f := by
  have hxs : (List.range xs.length).map (xs.getD · d) = xs := by
    apply List.ext_getElem <;> simp +contextual
  calc (List.range xs.length).flatMap (fun i => f (xs.getD i d))
      = ((List.range xs.length).map (xs.getD · d)).flatMap f := by rw [List.flatMap_map]
    _ = xs.flatMap f := by rw [hxs]

/-- The frames of an INIT_ROM that is not empty. -/
theorem AtRom.streams_rom (h : AtRom pair rom l 0 s) (hin : ∀ e ∈ rom, e.InRange n) (hlen : pair.hasLength n)
    (hpos : 0 < rom.length) :
    ∃ dc, Streams (2 * rom.length) (rom.flatMap (Expect.romEntry pair)) dc s (AtLine l) := by
  have hloop := Streams.loop hpos (fun _ _ hk hu => AtRom.streams_next hu hin hlen hk)
    (fun _ _ hk hu => AtRom.streams_last hu hin hlen hk) h
  rw [flatMap_range_getD] at hloop
  exact ⟨_, hloop⟩

end Rom

/-- An INIT_ROM of the spec's form is not empty: it holds the groups of 10_state.md R55. -/
theorem rom_length_pos (q : RomPieces) (n : Nat) : 0 < (q.rom n).length := by
  simp only [RomPieces.rom, List.length_append, List.length_cons]
  omega

/-- Settles O30: `Setup`, the reset pulse, the wait that returns, and the loop over INIT_ROM. -/
theorem initRuns : Obligations.InitRuns := by
  unfold Obligations.InitRuns
  rintro s arg o n answers rest hidle ho ⟨hpsr, ⟨q, hrom⟩, -⟩ hsetup hans hw
  have hacc := request_init_eq_accept hidle (arg := arg) (by simp [ho])
  have hstart : Runs (.setup :: panelReset ++ [.rom]) (s.accept .init arg) := Runs.accept hidle .init arg
  have hstep := hstart.step_cons.trans (setupStep_of_ok hsetup ho)
  have hreset : Runs (panelReset ++ [.rom]) ((s.accept .init arg).setUp o answers) := ⟨hidle.2, rfl, rfl⟩
  obtain ⟨hpulse, hwait⟩ := hreset.run_pulse
  have hwaited := hwait.run_wait rfl hans hw
  have hrom0 : AtRom (s.params.psrTable.entry o) s.params.initRom [] 0
      (((s.accept .init arg).setUp o answers).pulsed.waited n rest) :=
    ⟨hwait.waited n rest, rfl, rfl, rfl, rfl, rfl⟩
  obtain ⟨dc, hstream⟩ := hrom0.streams_rom (hrom ▸ q.rom_inRange _) (hpsr o) (hrom ▸ rom_length_pos q _)
  obtain ⟨p, r, hend⟩ := hstream.ends
  have hrun : run (1 + (4 + ((2 * n + 1) + (2 * s.params.initRom.length + 1)))) (s.accept .init arg) = _ :=
    (run_add (run_succ hstep)).trans ((run_add hpulse).trans ((run_add hwaited).trans hend))
  rw [show 1 + (4 + ((2 * n + 1) + (2 * s.params.initRom.length + 1))) =
    1 + 4 + (2 * n + 1) + 2 * s.params.initRom.length + 1 by omega] at hrun
  refine ⟨_, _, congrArg Host.Outcome.next hacc, accepted_accept .init arg s, hrun, ?_⟩
  simp only [List.reverse_append, List.reverse_cons, List.append_assoc, List.cons_append]
  rfl

end Sys2Proof.Machine

/-! Proofs of the family 60_exceptions.md: the first check a request fails says how it is turned away; a request while an
operation is active is dropped, whatever its word; and the lines that send a byte belong to operations that do not run in
DEEP_SLEEP. -/

namespace Sys2Proof.Machine

/-! ### An idle engine (60_exceptions.md R341) -/

theorem engineStep_of_idle {s : State} (ha : s.status.active = false) : engineStep s = .next s := by
  simp [engineStep, ha]

/-- Settles O52: with no action of the host the step is the engine's, which holds. -/
theorem idleEngineHolds : Obligations.IdleEngineHolds := by
  unfold Obligations.IdleEngineHolds
  intro s ⟨ha, hi⟩
  exact (step_of_inputs_nil hi).trans (engineStep_of_idle ha)

/-! ### Overrun (60_exceptions.md R326) -/

theorem request_of_active {op : Op} {arg : Byte} {s : State} (ha : s.status.active = true) :
    request op arg s = s.overrun :=
  if_pos ha

/-- A legal word and an illegal one are dropped alike. -/
theorem writeCmd_of_active {s : State} (w : Word) (ha : s.status.active = true) : writeCmd w s = .next s.overrun := by
  unfold writeCmd
  cases hd : decodeRequest w with
  | ok i =>
    obtain ⟨op, arg, he⟩ := exec_eq_request hd
    exact (he s).trans (congrArg Host.Outcome.next (request_of_active ha))
  | error => exact congrArg Host.Outcome.next (if_pos ha)

/-- Settles O18: the write comes to CMD, where every word is dropped. -/
theorem overrunDropsTheRequest : Obligations.OverrunDropsTheRequest := by
  unfold Obligations.OverrunDropsTheRequest
  intro s w rest hi ha
  exact (step_write hi rfl).trans (writeCmd_of_active w ha)

/-! ### The checks of a request, in their order (60_exceptions.md R323) -/

/-- The instructions `needsSetup` names are the requests other than INIT. -/
theorem exec_of_needsSetup {i : Instr} (h : needsSetup i) :
    ∃ op arg, op ≠ .init ∧ ∀ s, exec i s = .next (request op arg s) := by
  cases i with
  | reset | sendCmd | sendData | waitIdle | clear | frameH | frameV | displaySleep =>
    exact ⟨_, _, Op.noConfusion, fun _ => rfl⟩
  | _ => exact False.elim h

/-- The instructions `writesBus` names are the requests of BUSWRITE. -/
theorem exec_of_writesBus {i : Instr} (h : writesBus i) :
    ∃ op arg, op.busWrite = true ∧ ∀ s, exec i s = .next (request op arg s) := by
  cases i with
  | sendCmd | sendData | clear | frameH | frameV | displaySleep => exact ⟨_, _, rfl, fun _ => rfl⟩
  | _ => exact False.elim h

theorem requestError_of_noSetup {op : Op} {arg : Byte} {s : State} (hop : op ≠ .init)
    (hset : s.status.tsetupOk = false) : requestError op arg s = some .errNoSetup := by
  simp [requestError, hop, hset]

theorem requestError_of_deepSleep {op : Op} {arg : Byte} {s : State} (hop : op.busWrite = true)
    (hset : s.status.tsetupOk = true) (hsleep : s.status.pstate = .deepSleep) :
    requestError op arg s = some .errSleep := by
  have hinit : op ≠ .init := by rintro rfl; contradiction
  simp [requestError, hinit, hset, hop, hsleep]

/-- A request that does not write the bus is past the checks with its orientation, for INIT, and the setup, for the others. -/
theorem requestError_of_not_busWrite {op : Op} {arg : Byte} {s : State} (hop : op.busWrite = false)
    (hinit : op = .init → orientationOf arg ≠ none) (hset : op ≠ .init → s.status.tsetupOk = true) :
    requestError op arg s = none := by
  cases op with
  | init => simp [requestError, hinit rfl, Op.busWrite, Op.variantOk, Op.isFrame]
  | reset | waitIdle => simp [requestError, hset, Op.busWrite, Op.variantOk, Op.isFrame]
  | _ => contradiction

/-- Such a request is accepted, whatever PSTATE. -/
theorem request_accepted_of_not_busWrite {op : Op} {arg : Byte} {s : State} (hop : op.busWrite = false)
    (ha : s.status.active = false) (hinit : op = .init → orientationOf arg ≠ none)
    (hset : op ≠ .init → s.status.tsetupOk = true) : Accepted op arg s (request op arg s) := by
  rw [request_eq_accept ha (requestError_of_not_busWrite hop hinit hset)]
  exact accepted_accept op arg s

theorem orientationOf_ne_none {arg : Byte} (h1 : 1 ≤ arg.toNat) (h4 : arg.toNat ≤ 4) : orientationOf arg ≠ none := by
  have harg : arg.toNat = 1 ∨ arg.toNat = 2 ∨ arg.toNat = 3 ∨ arg.toNat = 4 := by omega
  rcases harg with h | h | h | h <;> simp [orientationOf, h]

/-- Settles O20: the setup is the first check of a request other than INIT. -/
theorem noSetupRejected : Obligations.NoSetupRejected := by
  unfold Obligations.NoSetupRejected
  intro s i hi ha hset
  obtain ⟨op, arg, hop, he⟩ := exec_of_needsSetup hi
  exact (he s).trans (congrArg Host.Outcome.next (request_eq_reject ha (requestError_of_noSetup hop hset)))

/-- Settles O21: past the setup check, PSTATE turns away what writes the bus, and no check is left for the others. -/
theorem deepSleepGating : Obligations.DeepSleepGating := by
  unfold Obligations.DeepSleepGating
  intro s ha hset hsleep
  refine ⟨fun i hi => ?rejected, ⟨_, rfl, ?reset⟩, ⟨_, rfl, ?waitIdle⟩, fun arg h1 h4 => ⟨_, rfl, ?init⟩⟩
  case rejected =>
    obtain ⟨op, arg, hop, he⟩ := exec_of_writesBus hi
    exact (he s).trans (congrArg Host.Outcome.next (request_eq_reject ha (requestError_of_deepSleep hop hset hsleep)))
  case reset => exact request_accepted_of_not_busWrite rfl ha Op.noConfusion fun _ => hset
  case waitIdle => exact request_accepted_of_not_busWrite rfl ha Op.noConfusion fun _ => hset
  case init => exact request_accepted_of_not_busWrite rfl ha (fun _ => orientationOf_ne_none h1 h4) fun _ => hset

/-! ### Who sends a byte (60_exceptions.md R325) -/

theorem pollBusy_trace (s : State) : (pollBusy s).trace = .pinRead s.busyAnswer :: s.trace := by
  rcases pollBusy_cases s with ⟨hb, h⟩ | ⟨hb, -, -, h⟩ | ⟨hb, -, h⟩ <;> simp [h, hb]

/-- A line of WaitUntilIdle sends no byte (43_protocol_primitives.md R205). -/
theorem waitStep_trace_ne_spi (s : State) (b : Byte) : (waitStep s).trace ≠ .spi b :: s.trace := by
  rcases waitStep_cases s with ⟨-, h⟩ | ⟨-, h⟩ | ⟨-, -, h⟩ <;> rw [h]
  · simp [pollDelay]
  · simp [pollBusy_trace]
  · simp [pollBusy_trace, waitBegins]

/-- The engine sends a byte only at a line that has one to send. -/
theorem EngineMove.advance_of_spi {s t : State} {b : Byte} (h : EngineMove s t) (htr : t.trace = .spi b :: s.trace) :
    s.status.active = true ∧ ∃ after, Advance s after := by
  cases h with
  | byte _ _ after ha _ hd => exact ⟨ha, after, hd⟩
  | wait => exact absurd htr (waitStep_trace_ne_spi s b)
  | rst lvl => cases lvl <;> simp [rstStep] at htr
  | _ => simp at htr

theorem HostMove.trace {s t : State} (h : HostMove s t) : t.trace = s.trace := by
  cases h with
  | request op arg =>
    rcases request_cases op arg s with ⟨-, h⟩ | ⟨-, _, -, h⟩ | ⟨-, -, h⟩ <;> simp [h]
  | illegal => unfold illegalRequest; split <;> rfl
  | status v => unfold writeStatus; split <;> rfl
  | fbBase | waitLimit | ignored | read | sync => rfl

/-- A step that sends a byte is a move of the engine, in its own turn or in one the host's queue leaves to it. -/
theorem step_spi {s t : State} {b : Byte} (h : step s = .next t) (htr : t.trace = .spi b :: s.trace) :
    ∃ rest, EngineMove { s with inputs := rest } t := by
  rcases step_cases h with ⟨-, hm⟩ | ⟨a, rest, -, hh⟩
  · exact ⟨s.inputs, hm⟩
  · rcases hostStep_cases hh with ⟨hm, -⟩ | ⟨addr, v, -, rfl⟩ | ⟨-, rfl⟩ | ⟨-, hm⟩
    · exact absurd (hm.trace.symm.trans htr) (by simp)
    · simp [hostStore] at htr
    · simp [engineReset] at htr
    · exact ⟨rest, hm⟩

/-- The lines that send a byte are those of the bus-writing operations, and INIT's loop over INIT_ROM. -/
theorem Advance.sender {s : State} {after : State → State} (hd : Advance s after) :
    s.seq.opl.busWrite = true ∨ (s.seq.opl = .init ∧ s.seq.item = 6) := by
  cases hd with
  | rom hl => exact .inr (opl_init_of_line_rom hl)
  | cmd _ hl | data _ hl | fill hl | pixels _ _ hl => exact .inl (by simpa [Item.plain] using line_cases hl)

/-- No line that sends a byte runs in DEEP_SLEEP: the bus-writing operations are rejected there, and INIT_ROM comes after
INIT's reset pulse. -/
theorem Consistent.awake_of_advance {s : State} {after : State → State} (hc : Consistent s)
    (ha : s.status.active = true) (hd : Advance s after) : s.status.pstate ≠ .deepSleep := by
  rcases hd.sender with hbus | ⟨hinit, hrom⟩
  · exact hc.awake ha hbus
  · simp [hc.initReset ha hinit (by omega)]

/-- Settles O53: the step that sends a byte is the engine's, at a line that does not run in DEEP_SLEEP. -/
theorem noByteIsSentInDeepSleep : Obligations.NoByteIsSentInDeepSleep := by
  unfold Obligations.NoByteIsSentInDeepSleep
  intro s t b hc h htr
  obtain ⟨rest, hm⟩ := step_spi h htr
  obtain ⟨ha, after, hd⟩ := hm.advance_of_spi htr
  have hc' : Consistent { s with inputs := rest } := hc.congr rfl rfl rfl
  exact hc'.awake_of_advance ha hd

end Sys2Proof.Machine

/-! Proofs of the family 70_reset_and_hazards.md: engine reset leaves the registers at their reset values, and of the rest
moves only the sequencer, the races and the panel's record. -/

namespace Sys2Proof.Machine

/-! ### Engine reset (70_reset_and_hazards.md R360-R362) -/

/-- The fields of a reset STATUS have the codes 0 (10_state.md R37). -/
theorem Status.reset_word : Status.reset.word = 0 := by decide

/-- Engine reset is one step, whatever the engine was doing. -/
theorem step_of_engineReset {s : State} {rest : List HostAction} (hi : s.inputs = .engineReset :: rest) :
    step s = .next (engineReset { s with inputs := rest }) :=
  step_of_inputs_cons hi

/-- Settles O17: the step is `engineReset`, whose record names the fields that change and their values. -/
theorem engineResetZeroesTheRegisters : Obligations.EngineResetZeroesTheRegisters := by
  unfold Obligations.EngineResetZeroesTheRegisters
  intro s rest hi
  have word_zero : (engineReset { s with inputs := rest }).status.word = 0 := Status.reset_word
  exact ⟨_, step_of_engineReset hi, word_zero, rfl, rfl, rfl, rfl, rfl⟩

end Sys2Proof.Machine
